-- ==== Sys2Proof/Word.lean ====
section
/-! DEFINITION. The words of the block: bytes of the frame and 16-bit words of the ports (spec R7). -/

namespace Sys2Proof

/-- A frame byte, mode code, checksum, data byte or line number: 8 bits, unsigned (R5, R7). -/
abbrev Byte := BitVec 8

/-- A command word, a response word or a duration in microseconds: 16 bits (R7). -/
abbrev HalfWord := BitVec 16

end Sys2Proof
end

