-- ==== Sys2Proof/Syntax.lean ====
section
/-! DEFINITION. The commands of the block: one constructor per row of spec/opcode_table.json (R62). -/

namespace Sys2Proof

/-- A command (R62). Operands are the fields of R61, as wide as the word has them. -/
inductive Instr where
  /-- BUILD_OFF, format N (R81). -/
  | buildOff
  /-- BUILD_ON, format B: MODE is the 3-bit selector of R63, TEMP the 8-bit field of R64 (R82). -/
  | buildOn (mode : BitVec 3) (temp : Byte)
  /-- CHECKSUM, format C: START inclusive, END exclusive (R91). -/
  | checksum (start stop : BitVec 5)
  /-- ENCODE, format N (R101). -/
  | encode
  /-- SEND, format S: LINE is the output line's number (R116). -/
  | send (line : Byte)
deriving DecidableEq, Repr

end Sys2Proof
end

