-- ==== Sys2Proof/WellFormed.lean ====
section
/-! DEFINITION. Which commands have a legal word: the operand condition R65 puts on a command beyond its fields' widths. -/

namespace Sys2Proof

/-- R65: a MODE selector of 5, 6 or 7 names no mode, and its word is illegal. Every other field admits all its values: a bad
range or a line that does not exist is a legal word with a bad operand (R66). -/
def Instr.wf : Instr → Bool
  | .buildOff => true
  | .buildOn mode _ => decide (mode.toNat ≤ 4)
  | .checksum _ _ => true
  | .encode => true
  | .send _ => true

end Sys2Proof
end

