-- ==== Sys2Proof/Decode.lean ====
section
/-! DEFINITION. Command words: the decoder (R60 to R66), the encoder (R61, R62, R71) and the opcode map's rows (R62). -/

namespace Sys2Proof

/-- Why a word is illegal (R65). -/
inductive DecodeError where
  /-- OP is 0x0 or in 0x6..0xF. -/
  | reservedOpcode
  /-- A reserved bit of the opcode's format is not zero. -/
  | reservedBits
  /-- OP is 0x2 and MODE is 5, 6 or 7. -/
  | reservedMode
deriving DecidableEq, Repr

/-- OP, bits 15:12 in every format (R60). -/
def opField (w : HalfWord) : BitVec 4 := w.extractLsb' 12 4

/-- MODE, bits 10:8 of format B (R61). -/
def modeField (w : HalfWord) : BitVec 3 := w.extractLsb' 8 3

/-- START, bits 9:5 of format C (R61). -/
def startField (w : HalfWord) : BitVec 5 := w.extractLsb' 5 5

/-- END, bits 4:0 of format C (R61). -/
def stopField (w : HalfWord) : BitVec 5 := w.extractLsb' 0 5

/-- TEMP of format B and LINE of format S, bits 7:0 (R61). -/
def byteField (w : HalfWord) : Byte := w.extractLsb' 0 8

/-- The reserved bits of formats N, B, C and S (R61). -/
def reservedN (w : HalfWord) : BitVec 12 := w.extractLsb' 0 12
/-- Bit 11 of format B. -/
def reservedB (w : HalfWord) : BitVec 1 := w.extractLsb' 11 1
/-- Bits 11:10 of format C. -/
def reservedC (w : HalfWord) : BitVec 2 := w.extractLsb' 10 2
/-- Bits 11:8 of format S. -/
def reservedS (w : HalfWord) : BitVec 4 := w.extractLsb' 8 4

/-- The decoder: total on 16-bit words, rejecting an illegal word by the condition of R65 it meets. -/
def decode (w : HalfWord) : Except DecodeError Instr :=
  if opField w = 1 then
    if reservedN w = 0 then .ok .buildOff else .error .reservedBits
  else if opField w = 2 then
    if reservedB w = 0 then
      if (modeField w).toNat ≤ 4 then .ok (.buildOn (modeField w) (byteField w)) else .error .reservedMode
    else .error .reservedBits
  else if opField w = 3 then
    if reservedC w = 0 then .ok (.checksum (startField w) (stopField w)) else .error .reservedBits
  else if opField w = 4 then
    if reservedN w = 0 then .ok .encode else .error .reservedBits
  else if opField w = 5 then
    if reservedS w = 0 then .ok (.send (byteField w)) else .error .reservedBits
  else .error .reservedOpcode

/-- The encoder: the word of a command, field beside field as R61 draws them. -/
def encode : Instr → HalfWord
  | .buildOff => 1#4 ++ 0#12
  | .buildOn mode temp => 2#4 ++ 0#1 ++ mode ++ temp
  | .checksum start stop => 3#4 ++ 0#2 ++ start ++ stop
  | .encode => 4#4 ++ 0#12
  | .send line => 5#4 ++ 0#4 ++ line

/-- A row of the opcode map: a word `w` is the row's command when `w & mask = match` (R62). -/
structure OpcodeRow where
  pattern : HalfWord
  mask : HalfWord
deriving DecidableEq, Repr

/-- The row of R62 for each command. -/
def opcodeRow : Instr → OpcodeRow
  | .buildOff => ⟨0x1000, 0xFFFF⟩
  | .buildOn _ _ => ⟨0x2000, 0xF800⟩
  | .checksum _ _ => ⟨0x3000, 0xFC00⟩
  | .encode => ⟨0x4000, 0xFFFF⟩
  | .send _ => ⟨0x5000, 0xFF00⟩

/-- The five rows of R62. -/
def opcodeRows : List OpcodeRow :=
  [⟨0x1000, 0xFFFF⟩, ⟨0x2000, 0xF800⟩, ⟨0x3000, 0xFC00⟩, ⟨0x4000, 0xFFFF⟩, ⟨0x5000, 0xFF00⟩]

/-- R62: the word is the row's command. -/
def OpcodeRow.holds (r : OpcodeRow) (w : HalfWord) : Bool := decide (w &&& r.mask = r.pattern)

/-- The host's view of the decoder: the command of an opcode-table word (one 16-bit word, R60), none where it is illegal. -/
def decodeTableWord (_nbits w : Nat) : Option Instr := (decode (BitVec.ofNat 16 w)).toOption

/-- R81: `BUILD_OFF` is `0001 0000 0000 0000`. -/
theorem decode_buildOff_word : decode 0b0001000000000000 = .ok .buildOff := by decide

/-- R82: `BUILD_ON COOL, 16` is `0010 0 011 00010000`. -/
theorem decode_buildOn_word : decode 0b0010001100010000 = .ok (.buildOn 3 16) := by decide

/-- R91: `CHECKSUM 8, 26` is `0011 00 01000 11010`. -/
theorem decode_checksum_word : decode 0b0011000100011010 = .ok (.checksum 8 26) := by decide

/-- R101: `ENCODE` is `0100 0000 0000 0000`. -/
theorem decode_encode_word : decode 0b0100000000000000 = .ok .encode := by decide

/-- R116: `SEND 255` is `0101 0000 11111111`. -/
theorem decode_send_word : decode 0b0101000011111111 = .ok (.send 255) := by decide

end Sys2Proof
end

