-- ==== Sys2Proof/Config.lean ====
section
/-! DEFINITION. What an implementation fixes (the OPEN parameters of R4), the environment's inputs (R30), and the free values. -/

namespace Sys2Proof

/-- A Pulse Entry: a pair of microsecond counts, the active (carrier-on) half first (R23, R43). -/
structure Entry where
  active : HalfWord
  idle : HalfWord
deriving DecidableEq, Repr, Inhabited

/-- FRAME and TEMPLATE: 27 bytes (R11, R21). -/
abbrev FrameFile := Vector Byte 27

/-- PSEQ and TXBUF: 220 entries (R25, R28). -/
abbrev EntryStore := Vector Entry 220

/-- What BUILD_ON does with a temperature outside 16..30 (R4, R83). -/
inductive TempPolicy where
  | passthrough
  | clamp
  | reject
deriving DecidableEq, Repr, Inhabited

/-- Whether the draw `env.HW_FAULT` is free or constantly false (R4, R30). -/
inductive HwFaultModel where
  | never
  | any
deriving DecidableEq, Repr, Inhabited

/-- The parameters R4 marks OPEN. They are configuration: no operation changes them (R35). -/
structure Config where
  /-- TEMPLATE, the canonical "off" frame (R21). -/
  template : FrameFile
  /-- MODE_CODE[Auto] (R20). -/
  codeAuto : Byte
  /-- MODE_CODE[Fan] (R20). -/
  codeFan : Byte
  /-- MODE_CODE[Dry] (R20). -/
  codeDry : Byte
  /-- T_HDR (R23). -/
  tHdr : Entry
  /-- T_ZERO (R23). -/
  tZero : Entry
  /-- T_ONE (R23). -/
  tOne : Entry
  /-- T_PAUSE (R23). -/
  tPause : Entry
  /-- T_END.active; T_END.idle is 0, fixed (R23). -/
  tEndActive : HalfWord
  /-- TEMP_POLICY (R83). -/
  tempPolicy : TempPolicy
  /-- N_LINES: lines 0 .. N_LINES-1 exist (R30). -/
  nLines : Nat
  /-- HW_FAULT_MODEL (R30). -/
  hwFaultModel : HwFaultModel
deriving DecidableEq, Repr, Inhabited

/-- Both counts of an entry are in 1..65535 (R23). -/
abbrev Entry.positive (e : Entry) : Prop := e.active ≠ 0 ∧ e.idle ≠ 0

/-- The constraints R4 (with R20, R21, R23) puts on the OPEN parameters. -/
abbrev Config.WellFormed (c : Config) : Prop :=
  c.template[13].getLsbD 0 = false ∧
  c.codeAuto &&& 0x0F = 0 ∧ c.codeFan &&& 0x0F = 0 ∧ c.codeDry &&& 0x0F = 0 ∧
  c.tHdr.positive ∧ c.tZero.positive ∧ c.tOne.positive ∧ c.tPause.positive ∧ c.tEndActive ≠ 0 ∧
  c.tZero ≠ c.tOne ∧ 1 ≤ c.nLines ∧ c.nLines ≤ 256

/-- T0, the test template of 95_test_vectors.md section 0. -/
def Config.templateT0 : FrameFile :=
  #v[0x02, 0x20, 0xE0, 0x04, 0x00, 0x00, 0x00, 0x06,
     0x02, 0x20, 0xE0, 0x04, 0x00, 0x08, 0x32, 0x80, 0xAF, 0x00, 0x00, 0x06, 0x60, 0x00, 0x00, 0x80, 0x00, 0x06, 0xEE]

/-- CFG_T, the test configuration of 95_test_vectors.md section 0: test data of the spec, no device. -/
def Config.cfgT : Config where
  template := Config.templateT0
  codeAuto := 0x00
  codeFan := 0x60
  codeDry := 0x20
  tHdr := ⟨3500, 1750⟩
  tZero := ⟨435, 435⟩
  tOne := ⟨435, 1300⟩
  tPause := ⟨435, 10000⟩
  tEndActive := 435
  tempPolicy := .passthrough
  nLines := 2
  hwFaultModel := .any

/-- The OPEN parameters of the machine at hand: a free value (log 1). -/
opaque Config.free : Config

/-- The machine's configuration: the free one, held to the constraints of R4. Every configuration that meets them is a possible
value; CFG_T only keeps one that breaks them out (log 1, DESIGN CHOICE, safe). -/
def Config.machine : Config := if Config.free.WellFormed then Config.free else Config.cfgT

/-- ENV's three Boolean inputs for one line (R30). -/
structure LineInputs where
  /-- `env.AVAILABLE[l]`: the line's hardware is present and usable. -/
  available : Bool
  /-- `env.CLAIMED[l]`: another component holds the line. -/
  claimed : Bool
  /-- `env.CARRIER_OK[l]`: the line can produce the carrier. -/
  carrierOk : Bool
deriving DecidableEq, Repr, Inhabited

/-- The levels of ENV's inputs during one step: three a line, and the draw `env.HW_FAULT` (R30). -/
structure EnvInputs where
  lines : Vector LineInputs 256
  hwFault : Bool
deriving DecidableEq, Repr, Inhabited

/-- ENV's inputs at reset: a free value (log 3). -/
opaque Config.freeEnv : EnvInputs

/-- The unspecified contents of CMD after the n-th reset: a free value (R36, U11; log 4). -/
opaque Config.freeCmd : Nat → HalfWord
/-- The unspecified contents of RSP after the n-th reset: a free value (R36, U11; log 4). -/
opaque Config.freeRsp : Nat → HalfWord
/-- The unspecified contents of FRAME after the n-th reset: a free value (R36, U11; log 4). -/
opaque Config.freeFrame : Nat → FrameFile
/-- The unspecified contents of PSEQ after the n-th reset: a free value (R36, U11; log 4). -/
opaque Config.freePseq : Nat → EntryStore
/-- The unspecified contents of TXBUF after the n-th reset: a free value (R36, U11; log 4). -/
opaque Config.freeTxbuf : Nat → EntryStore
/-- The unspecified contents of TX_LINE after the n-th reset: a free value (R36, U11; log 4). -/
opaque Config.freeTxLine : Nat → Byte

end Sys2Proof
end

