-- ==== Sys2Proof/Machine/State.lean ====
section
/-! DEFINITION. The state of the block, of its lines and of the plans of HOST and ENV, as plain data, and the state after reset (R36). -/

namespace Sys2Proof.Machine

/-- Why the machine stops. -/
inductive Fault where
  /-- SEND's LOAD or EMIT asks PSEQ or TXBUF for an entry past the 220 that exist (R40, R44: the block never produces such an
  index). Raised by `sendLoad` and `sendEmit`, only in states no run reaches. SAFE: it stops where the spec says nothing. -/
  | noSuchEntry
deriving DecidableEq, Repr

/-- Why an instruction has no meaning. -/
inductive Refusal where
  /-- The instruction has no meaning in the model yet. No arm of `exec` raises it. SAFE. -/
  | notModelled (mnemonic : String)
deriving DecidableEq, Repr

/-- ST (R27). -/
inductive Status where
  | idle
  | busy
deriving DecidableEq, Repr

/-- TX_PHASE (R28). -/
inductive TxPhase where
  | off
  | claim
  | configure
  | load
  | emit
  | release
deriving DecidableEq, Repr

/-- The electrical level of a line (R31). -/
inductive Level where
  | low
  | high
deriving DecidableEq, Repr

/-- A carrier configuration: frequency in Hz, duty cycle in per cent, idle level (R24). -/
structure CarrierConfig where
  freqHz : Nat
  dutyPct : Nat
  idleLevel : Level
deriving DecidableEq, Repr

/-- An event of a line's trace (R32). -/
inductive Event where
  | claim
  | config (c : CarrierConfig)
  | mark (d : HalfWord)
  | space (d : HalfWord)
  | release
deriving DecidableEq, Repr

/-- What the block holds for a line, and the line's record (R31, R32). -/
structure Line where
  /-- OWNED[l]. -/
  owned : Bool
  /-- LINE_CFG[l]; `none` is the spec's NONE. -/
  lineCfg : Option CarrierConfig
  /-- The line's level. -/
  level : Level
  /-- TRACE[l], oldest event first. -/
  trace : List Event
deriving DecidableEq, Repr

/-- A move of HOST (R27, R73, R165). It waits while ST is BUSY. -/
inductive HostMove where
  /-- Present a command word on the port. -/
  | present (w : HalfWord)
  /-- Present the word as the next of an expansion: only if the last response was not Failed (R73). -/
  | presentIfOk (w : HalfWord)
  /-- Assert RESET (R165). -/
  | reset
deriving DecidableEq, Repr

/-- The machine's state. The fields up to `lines` are the spec's; the last ones are the model's (logs 1 to 4). -/
structure State where
  /-- The parameters of R4, which no step changes (R35; log 1). -/
  cfg : Config
  /-- ST (R27). -/
  st : Status
  /-- CMD, the accepted command word (R27). -/
  cmd : HalfWord
  /-- RSP (R27). -/
  rsp : HalfWord
  /-- RSP_VALID (R27). -/
  rspValid : Bool
  /-- FRAME (R11). -/
  frame : FrameFile
  /-- FRAME_VALID (R18). -/
  frameValid : Bool
  /-- PSEQ (R25). -/
  pseq : EntryStore
  /-- PSEQ_LEN (R25). -/
  pseqLen : BitVec 8
  /-- PSEQ_VALID (R25). -/
  pseqValid : Bool
  /-- TX_PHASE (R28). -/
  txPhase : TxPhase
  /-- TX_PTR (R28). -/
  txPtr : BitVec 8
  /-- TX_LEN (R28). -/
  txLen : BitVec 8
  /-- TX_LINE (R28). -/
  txLine : Byte
  /-- TXBUF (R28). -/
  txbuf : EntryStore
  /-- The lines by number; those below N_LINES exist (R30; log 17). -/
  lines : Vector Line 256
  /-- ENV's inputs during this step (R30; log 3). -/
  env : EnvInputs
  /-- ENV's inputs during the steps to come (log 3). -/
  envPlan : List EnvInputs
  /-- HOST's moves to come (log 2). -/
  hostPlan : List HostMove
  /-- How many times RESET was asserted: which free contents an unspecified register holds (log 4). -/
  resetCount : Nat
deriving DecidableEq, Repr

/-- A line at reset: unclaimed, unconfigured, LOW, its trace empty (R36). -/
def Line.reset : Line := { owned := false, lineCfg := none, level := .low, trace := [] }

/-- The reset table of R36. The parameters and what HOST and ENV will do are no part of it and are handed on. -/
def State.resetTo (c : Config) (n : Nat) (env : EnvInputs) (envPlan : List EnvInputs) (hostPlan : List HostMove) : State where
  cfg := c
  st := .idle
  cmd := Config.freeCmd n
  rsp := Config.freeRsp n
  rspValid := false
  frame := Config.freeFrame n
  frameValid := false
  pseq := Config.freePseq n
  pseqLen := 0
  pseqValid := false
  txPhase := .off
  txPtr := 0
  txLen := 0
  txLine := Config.freeTxLine n
  txbuf := Config.freeTxbuf n
  lines := Vector.replicate 256 Line.reset
  env := env
  envPlan := envPlan
  hostPlan := hostPlan
  resetCount := n

/-- The machine right after power-on, which asserts RESET (R165, R36). -/
def State.reset : State := State.resetTo Config.machine 0 Config.freeEnv [] []

end Sys2Proof.Machine
end

