-- ==== Sys2Proof/Machine/Ops.lean ====
section
/-! DEFINITION. The named operations: the response and the Failed outcome, the stores, the lines, ENV's inputs, HOST's port. -/

namespace Sys2Proof.Machine

/-! ### The response (R67, R68) and the Failed outcome (R140, R141) -/

/-- The causes of a Failed outcome (R141). -/
inductive Cause where
  | cfgInvalidLine
  | cfgLineUnavailable
  | cfgUnsupportedCarrier
  | hwBusy
  | hwFault
  | illegalCmd
  | noFrame
  | noSequence
  | badRange
  | tempRange
deriving DecidableEq, Repr

/-- ERR, the cause's code (R141). -/
def causeCode : Cause → BitVec 4
  | .cfgInvalidLine => 1
  | .cfgLineUnavailable => 2
  | .cfgUnsupportedCarrier => 3
  | .hwBusy => 4
  | .hwFault => 5
  | .illegalCmd => 8
  | .noFrame => 9
  | .noSequence => 10
  | .badRange => 11
  | .tempRange => 12

/-- The response word of a success: FAILED = 0, bits 14:12 = 0, ERR = 0, DATA (R68). -/
def okWord (d : Byte) : HalfWord := 0#1 ++ 0#3 ++ 0#4 ++ d

/-- The response word of a failure: FAILED = 1, bits 14:12 = 0, ERR, DATA = 0 (R68, R140). -/
def failedWord (c : Cause) : HalfWord := 1#1 ++ 0#3 ++ causeCode c ++ 0#8

/-- FAILED, bit 15 of a response word (R68). -/
def rspFailed (w : HalfWord) : Bool := w.getLsbD 15

/-- ERR, bits 11:8 of a response word (R68). -/
def rspErr (w : HalfWord) : BitVec 4 := w.extractLsb' 8 4

/-- DATA, bits 7:0 of a response word (R68). -/
def rspData (w : HalfWord) : Byte := w.extractLsb' 0 8

/-- Bits 14:12 of a response word, always 0 (R68). -/
def rspReserved (w : HalfWord) : BitVec 3 := w.extractLsb' 12 3

/-- The end of an operation: RSP, RSP_VALID and ST in one step (R27). -/
def respond (w : HalfWord) (s : State) : State := { s with rsp := w, rspValid := true, st := .idle }

/-- `respond OK(d)` (R6). -/
def respondOk (d : Byte) (s : State) : State := respond (okWord d) s

/-- `raise Failed(E)`: the one way a failure is taken (R140). -/
def raiseFailed (c : Cause) (s : State) : State := respond (failedWord c) s

/-! ### The stores (R40) -/

/-- The bytes `FRAME[a], ..., FRAME[b-1]` in ascending index. -/
def frameRange (f : FrameFile) (a b : Nat) : List Byte := (f.toList.drop a).take (b - a)

/-- The sum of bytes modulo 256 (R90). -/
def byteSum (bs : List Byte) : Byte := bs.foldl (· + ·) 0

/-- `cksum(s, e)` (R90). -/
def cksum (f : FrameFile) (a b : Nat) : Byte := byteSum (frameRange f a b)

/-- Writes the entries of the list to places 0, 1, 2, ... of a store and keeps the places past them. Irreducible, so that
comparing two states never unfolds a store of 220 entries: its law is `getElem_overlay`. -/
@[irreducible] def overlay (v : EntryStore) (es : List Entry) : EntryStore := Vector.ofFn fun k => es.getD k.val v[k.val]

/-- `MemRead` of a store; there is nothing past its 220 places. -/
def readEntry (v : EntryStore) (k : Nat) : Option Entry := v[k]?

/-- Overwrites FRAME. -/
def writeFrame (f : FrameFile) (s : State) : State := { s with frame := f }

/-- PSEQ from its first place on, and PSEQ_LEN, the number of entries appended (R25). -/
def writeSequence (es : List Entry) (s : State) : State :=
  { s with pseq := overlay s.pseq es, pseqLen := BitVec.ofNat 8 es.length }

/-! ### The transmitter's registers (R28) -/

/-- `TX_PHASE <- p`. -/
def setPhase (p : TxPhase) (s : State) : State := { s with txPhase := p }

/-- `TX_LINE <- l`. -/
def setTxLine (l : Byte) (s : State) : State := { s with txLine := l }

/-- `TX_PTR <- k`. -/
def setTxPtr (k : BitVec 8) (s : State) : State := { s with txPtr := k }

/-- LOAD's copy: `TXBUF[0..PSEQ_LEN) <- PSEQ[0..PSEQ_LEN)`, `TX_LEN <- PSEQ_LEN`, `TX_PTR <- 0` (R122). -/
def loadTxbuf (s : State) : State :=
  { s with
    txbuf := overlay s.txbuf (s.pseq.toList.take s.pseqLen.toNat)
    txLen := s.pseqLen
    txPtr := 0 }

/-! ### The lines (R31, R32) -/

/-- Every 8-bit line number names a place of the line store. -/
theorem line_lt (l : Byte) : l.toNat < 256 := l.isLt

/-- What the block holds for line `l`. -/
def lineAt (s : State) (l : Byte) : Line := s.lines[l.toNat]'(line_lt l)

/-- Overwrites what the block holds for line `l`. -/
def setLine (l : Byte) (x : Line) (s : State) : State := { s with lines := s.lines.set l.toNat x (line_lt l) }

/-- The hardwired carrier: 38000 Hz, 50 per cent, LOW (R24). -/
def carrier : CarrierConfig := { freqHz := 38000, dutyPct := 50, idleLevel := .low }

/-- Events appended to a line's trace. A MARK is over when its step ends, so the line then rests at the idle level (R31; log 7). -/
def lineAfter (evs : List Event) (x : Line) : Line :=
  { x with trace := x.trace ++ evs, level := carrier.idleLevel }

/-- `emit(l, seg)` for each segment in turn (R6, R32). -/
def emitEvents (l : Byte) (evs : List Event) (s : State) : State := setLine l (lineAfter evs (lineAt s l)) s

/-- CLAIM: `OWNED[l] <- 1; emit(l, CLAIM)` (R120). -/
def claimLine (l : Byte) (s : State) : State :=
  setLine l (lineAfter [.claim] { lineAt s l with owned := true }) s

/-- CONFIGURE: `LINE_CFG[l] <- (38000, 50, LOW); emit(l, CONFIG(38000, 50, LOW))` (R121). -/
def configureLine (l : Byte) (s : State) : State :=
  setLine l (lineAfter [.config carrier] { lineAt s l with lineCfg := some carrier }) s

/-- `release(l)`: `OWNED[l] <- 0; emit(l, RELEASE); TX_PHASE <- OFF` (R116, R129). -/
def releaseLine (l : Byte) (s : State) : State :=
  setPhase .off (setLine l (lineAfter [.release] { lineAt s l with owned := false }) s)

/-! ### ENV's inputs (R30; log 3) -/

/-- ENV's inputs for line `l` during this step. -/
def inputsAt (s : State) (l : Byte) : LineInputs := s.env.lines[l.toNat]'(line_lt l)

/-- `env.HW_FAULT`: constantly false under NEVER, ENV's draw under ANY (R30). -/
def drawHwFault (s : State) : Bool :=
  match s.cfg.hwFaultModel with
  | .never => false
  | .any => s.env.hwFault

/-- ENV's inputs move to the next step's levels; with no plan left they keep their levels (log 3). -/
def advanceEnv (s : State) : State :=
  match s.envPlan with
  | [] => s
  | e :: es => { s with env := e, envPlan := es }

/-- A step's outcome with ENV's inputs moved on. -/
def afterStep : Host.Outcome State Fault Refusal → Host.Outcome State Fault Refusal
  | .next s => .next (advanceEnv s)
  | .fault r => .fault r
  | .refused r => .refused r

/-! ### HOST's port (R27) -/

/-- CMD_READY = not ST (R27). -/
def cmdReady (s : State) : Bool := decide (s.st = .idle)

/-- CMD_VALID: HOST presents a command (R27). The word after a Failed response is not presented (R73). -/
def cmdValid (s : State) : Bool :=
  match s.hostPlan with
  | .present _ :: _ => true
  | .presentIfOk _ :: _ => s.rspValid && !rspFailed s.rsp
  | _ => false

/-- Acceptance of a command: CMD is copied, ST becomes BUSY, RSP_VALID falls (R27). -/
def accept (w : HalfWord) (s : State) : State := { s with cmd := w, st := .busy, rspValid := false }

/-- HOST's plan moves on. -/
def setHostPlan (q : List HostMove) (s : State) : State := { s with hostPlan := q }

/-- RESET: the table of R36; HOST, ENV and the parameters are outside the block. -/
def applyReset (q : List HostMove) (s : State) : State :=
  State.resetTo s.cfg (s.resetCount + 1) s.env s.envPlan q

/-- A step while ST is IDLE: HOST's next move. With no move the block waits and nothing changes (R27, R166). -/
def hostStep (s : State) : State :=
  match s.hostPlan with
  | [] => s
  | .present w :: q => accept w (setHostPlan q s)
  | .presentIfOk w :: q =>
    if cmdValid s then accept w (setHostPlan q s) else setHostPlan q s
  | .reset :: q => applyReset q s

/-- The command the block executes while BUSY is the one in CMD. -/
def fetchWord (s : State) : HalfWord := s.cmd

/-- An illegal word ends Failed with ILLEGAL_CMD and changes nothing else (R65). -/
def illegalCommand (s : State) : State := raiseFailed .illegalCmd s

/-- A command just accepted, the transmitter at rest: what `withFetchWord` places (log 9). -/
def placeCommand (w : HalfWord) (s : State) : State := setPhase .off (accept w s)

end Sys2Proof.Machine
end

