-- ==== Sys2Proof/Machine/Operands.lean ====
section
/-! DEFINITION. The operand forms: mode selectors and codes, the temperature byte, checksum ranges, line numbers, pulse symbols. -/

namespace Sys2Proof.Machine

/-- The operating modes (R19). -/
inductive Mode where
  | auto
  | fan
  | dry
  | cool
  | heat
deriving DecidableEq, Repr

/-- The mode a selector names, in R19's order; 5, 6 and 7 name none (R19, R63). -/
def modeOf (sel : BitVec 3) : Option Mode :=
  match sel.toNat with
  | 0 => some .auto
  | 1 => some .fan
  | 2 => some .dry
  | 3 => some .cool
  | 4 => some .heat
  | _ => none

/-- MODE_CODE (R20): Cool and Heat are fixed, the others parameters. -/
def modeCode (c : Config) : Mode → Byte
  | .auto => c.codeAuto
  | .fan => c.codeFan
  | .dry => c.codeDry
  | .cool => 0x30
  | .heat => 0x40

/-- TEMP_MIN and TEMP_MAX, used only by CLAMP and REJECT (R4). -/
def tempMin : Int := 16
/-- TEMP_MAX (R4). -/
def tempMax : Int := 30

/-- A whole number of degrees doubled, modulo 256. -/
def doubled (t : Int) : Byte := BitVec.ofInt 8 (2 * t)

/-- `temp_byte(TEMP)` under a policy; `none` is REJECT's TEMP_RANGE (R83). -/
def tempByte (p : TempPolicy) (temp : Byte) : Option Byte :=
  match p with
  | .passthrough => some (temp <<< 1)
  | .clamp =>
    some (doubled (if temp.toInt < tempMin then tempMin else if tempMax < temp.toInt then tempMax else temp.toInt))
  | .reject => if temp.toInt < tempMin ∨ tempMax < temp.toInt then none else some (doubled temp.toInt)

/-- CHECKSUM's range is bad when it is reversed or runs past the frame (R91). -/
def badRange (start stop : BitVec 5) : Bool := decide (stop.toNat < start.toNat ∨ 27 < stop.toNat)

/-- Lines 0 .. N_LINES-1 exist (R30). -/
def lineExists (c : Config) (l : Byte) : Bool := decide (l.toNat < c.nLines)

/-- T_END: its idle count is 0, fixed (R23). -/
def tEnd (c : Config) : Entry := ⟨c.tEndActive, 0⟩

/-- `sym`: T_ONE for a bit that is set, T_ZERO for one that is not (R100). -/
def sym (c : Config) (b : Bool) : Entry := if b then c.tOne else c.tZero

/-- An entry on the line: MARK then SPACE; with a zero idle count MARK alone (R69). -/
def segments (e : Entry) : List Event :=
  if e.idle = 0 then [.mark e.active] else [.mark e.active, .space e.idle]

end Sys2Proof.Machine
end

