-- ==== Sys2Proof/Machine/Checksum.lean ====
section
/-! DEFINITION. The Checksum Calculator: CHECKSUM (R90 to R95). -/

namespace Sys2Proof.Machine

/-- CHECKSUM (R91): NO_FRAME, then BAD_RANGE, else the sum of the range. Nothing but the response is written. -/
def execChecksum (start stop : BitVec 5) (s : State) : Host.Outcome State Fault Refusal :=
  if s.frameValid then
    if badRange start stop then .next (raiseFailed .badRange s)
    else .next (respondOk (cksum s.frame start.toNat stop.toNat) s)
  else .next (raiseFailed .noFrame s)

end Sys2Proof.Machine
end

