-- ==== Sys2Proof/Machine/Flags.lean ====
section
/-! DEFINITION. The flags FRAME_VALID and PSEQ_VALID (R18, R25, R34): the block has no others beside those the response and the lines carry. -/

namespace Sys2Proof.Machine

/-- A BUILD sets FRAME_VALID and clears PSEQ_VALID (R80). -/
def frameBuilt (s : State) : State := { s with frameValid := true, pseqValid := false }

/-- A successful ENCODE sets PSEQ_VALID; FRAME_VALID stays (R101). -/
def sequenceBuilt (s : State) : State := { s with pseqValid := true }

/-- Sent clears both: the request's data are discarded (R127). -/
def requestDiscarded (s : State) : State := { s with frameValid := false, pseqValid := false }

end Sys2Proof.Machine
end

