-- ==== Sys2Proof/Machine/FrameBuilder.lean ====
section
/-! DEFINITION. The Command Frame Builder: BUILD_OFF and BUILD_ON (R80 to R84). -/

namespace Sys2Proof.Machine

/-- The frame BUILD_ON leaves for a mode code and a temperature byte: TEMPLATE with byte 13 ORed and byte 14 replaced (R82). -/
def onFrame (template : FrameFile) (code b14 : Byte) : FrameFile :=
  (template.set 13 (template[13] ||| 0x01 ||| code)).set 14 b14

/-- The end of a BUILD: all 27 bytes of FRAME, the flags, the response (R80). -/
def finishBuild (f : FrameFile) (s : State) : State := respondOk 0 (frameBuilt (writeFrame f s))

/-- BUILD_OFF (R81). -/
def execBuildOff (s : State) : Host.Outcome State Fault Refusal := .next (finishBuild s.cfg.template s)

/-- BUILD_ON (R82). Its checks come in R144's order: ILLEGAL_CMD for a selector that names no mode, then TEMP_RANGE. -/
def execBuildOn (mode : BitVec 3) (temp : Byte) (s : State) : Host.Outcome State Fault Refusal :=
  .next <|
    match modeOf mode with
    | none => raiseFailed .illegalCmd s
    | some m =>
      match tempByte s.cfg.tempPolicy temp with
      | none => raiseFailed .tempRange s
      | some b14 => finishBuild (onFrame s.cfg.template (modeCode s.cfg m) b14) s

end Sys2Proof.Machine
end

