-- ==== Sys2Proof/Machine/PulseEncoder.lean ====
section
/-! DEFINITION. The Pulse Encoder: ENCODE, and the inverse reader of its sequence (R100 to R109). -/

namespace Sys2Proof.Machine

/-- `bits_of(b)`: the eight entries of a byte, bit 0 first (R100). -/
def bitsOf (c : Config) (b : Byte) : List Entry :=
  [sym c (b.getLsbD 0), sym c (b.getLsbD 1), sym c (b.getLsbD 2), sym c (b.getLsbD 3),
   sym c (b.getLsbD 4), sym c (b.getLsbD 5), sym c (b.getLsbD 6), sym c (b.getLsbD 7)]

/-- `bytes_of(s, e)`: the entries of `FRAME[s..e)`, bytes in ascending index (R100). -/
def bytesOf (c : Config) (f : FrameFile) (a b : Nat) : List Entry := (frameRange f a b).flatMap (bitsOf c)

/-- The sequence ENCODE appends, steps 1 to 7 (R101). -/
def sequenceOf (c : Config) (f : FrameFile) : List Entry :=
  [c.tHdr] ++ bytesOf c f 0 8 ++ [c.tPause] ++ [c.tHdr] ++ bytesOf c f 8 26 ++ bitsOf c (cksum f 8 26) ++ [tEnd c]

/-- `FRAME[26] <- cksum(8, 26)` (R107). -/
def withChecksum (f : FrameFile) : FrameFile := f.set 26 (cksum f 8 26)

/-- ENCODE (R101): NO_FRAME, else PSEQ and PSEQ_LEN from an empty sequence, FRAME[26], PSEQ_VALID, OK(220). -/
def execEncode (s : State) : Host.Outcome State Fault Refusal :=
  if s.frameValid then
    .next (respondOk 220 (sequenceBuilt (writeSequence (sequenceOf s.cfg s.frame) (writeFrame (withChecksum s.frame) s))))
  else .next (raiseFailed .noFrame s)

/-- The data bit an entry stands for: T_ONE is 1, T_ZERO is 0, any other entry carries none (R109). -/
def bitOfEntry (c : Config) (e : Entry) : Option Bool :=
  if e = c.tOne then some true else if e = c.tZero then some false else none

/-- Where the inverse reader finds bit 0 of byte `k`: the layout of R109. -/
def byteBase (k : Nat) : Nat := if k < 8 then 1 + 8 * k else 67 + 8 * (k - 8)

/-- The inverse reader's byte `k` of a sequence (R109); none where one of its eight entries carries no bit. -/
def readByte (c : Config) (p : EntryStore) (k : Nat) : Option Byte :=
  let bit (j : Nat) : Option Bool := (readEntry p (byteBase k + j)).bind (bitOfEntry c)
  (bit 0).bind fun b0 => (bit 1).bind fun b1 => (bit 2).bind fun b2 => (bit 3).bind fun b3 =>
  (bit 4).bind fun b4 => (bit 5).bind fun b5 => (bit 6).bind fun b6 => (bit 7).map fun b7 =>
    BitVec.ofBoolListLE [b0, b1, b2, b3, b4, b5, b6, b7]

end Sys2Proof.Machine
end

