-- ==== Sys2Proof/Machine/Transmission.lean ====
section
/-! DEFINITION. The Transmission Driver: SEND, one step of TX per phase and one per emitted entry (R115 to R134; logs 5, 6). -/

namespace Sys2Proof.Machine

/-- ADMIT: a sequence, an existing line, an available line, in that order (R117, R118, R119); then phase CLAIM. -/
def sendAdmit (line : Byte) (s : State) : State :=
  if s.pseqValid then
    if lineExists s.cfg line then
      if (inputsAt s line).available then setPhase .claim (setTxLine line s)
      else raiseFailed .cfgLineUnavailable (setTxLine line s)
    else raiseFailed .cfgInvalidLine s
  else raiseFailed .noSequence s

/-- CLAIM: HW_BUSY on a line another component holds, else the claim (R120); then phase CONFIGURE. -/
def sendClaim (line : Byte) (s : State) : State :=
  if (inputsAt s line).claimed then raiseFailed .hwBusy (setPhase .off s)
  else setPhase .configure (claimLine line s)

/-- CONFIGURE: release and CFG_UNSUPPORTED_CARRIER, or the configuration (R121, R129); then phase LOAD. -/
def sendConfigure (line : Byte) (s : State) : State :=
  if (inputsAt s line).carrierOk then setPhase .load (configureLine line s)
  else raiseFailed .cfgUnsupportedCarrier (releaseLine line s)

/-- LOAD: PSEQ[0..PSEQ_LEN) to TXBUF (R122); then phase EMIT. A PSEQ_LEN above 220 names entries that do not exist (log 8). -/
def sendLoad (s : State) : Host.Outcome State Fault Refusal :=
  if s.pseqLen.toNat ≤ 220 then .next (setPhase .emit (loadTxbuf s)) else .fault .noSuchEntry

/-- One entry emitted: its segments, TX_PTR + 1, and phase RELEASE after the terminator or the last entry (R123). -/
def emitEntry (line : Byte) (e : Entry) (s : State) : State :=
  setPhase (if e.idle = 0 ∨ s.txLen ≤ s.txPtr + 1 then .release else .emit)
    (setTxPtr (s.txPtr + 1) (emitEvents line (segments e) s))

/-- One step of EMIT: the draw of HW_FAULT, then one entry (R123, R124). With no entry left the phase is RELEASE. -/
def sendEmit (line : Byte) (s : State) : Host.Outcome State Fault Refusal :=
  if s.txPtr < s.txLen then
    if drawHwFault s then .next (raiseFailed .hwFault (releaseLine line s))
    else
      match readEntry s.txbuf s.txPtr.toNat with
      | none => .fault .noSuchEntry
      | some e => .next (emitEntry line e s)
  else .next (setPhase .release s)

/-- RELEASE: the line released, the request's data discarded, the outcome Sent (R125, R127). -/
def sendRelease (line : Byte) (s : State) : State := respondOk 0 (requestDiscarded (releaseLine line s))

/-- SEND: the step of the phase TX is in (R116). -/
def execSend (line : Byte) (s : State) : Host.Outcome State Fault Refusal :=
  match s.txPhase with
  | .off => .next (sendAdmit line s)
  | .claim => .next (sendClaim line s)
  | .configure => .next (sendConfigure line s)
  | .load => sendLoad s
  | .emit => sendEmit line s
  | .release => .next (sendRelease line s)

end Sys2Proof.Machine
end

