-- ==== Sys2Proof/Machine/Dispatch.lean ====
section
/-! DEFINITION. exec: one arm per command, each a call of its meaning. -/

namespace Sys2Proof.Machine

def exec (i : Instr) (s : State) : Host.Outcome State Fault Refusal :=
  match i with
  | .buildOff => Sys2Proof.Machine.execBuildOff s
  | .buildOn mode temp => Sys2Proof.Machine.execBuildOn mode temp s
  | .checksum start stop => Sys2Proof.Machine.execChecksum start stop s
  | .encode => Sys2Proof.Machine.execEncode s
  | .send line => Sys2Proof.Machine.execSend line s

end Sys2Proof.Machine
end

