-- ==== Sys2Proof/Machine/Step.lean ====
section
/-! DEFINITION. One step of the machine: HOST's move while IDLE, the block's while BUSY, and ENV's inputs moved on after it. -/

namespace Sys2Proof.Machine

/-- One step. While ST is IDLE HOST moves; while BUSY the block runs one step of the command in CMD, an illegal one failing
(R27, R65, R116). ENV's inputs then take the next step's levels (log 3). -/
def step (s : State) : Host.Outcome State Fault Refusal :=
  match s.st with
  | .idle => afterStep (.next (hostStep s))
  | .busy =>
    match decode (fetchWord s) with
    | .ok i => afterStep (exec i s)
    | .error _ => afterStep (.next (illegalCommand s))

/-- The state with the word `w` just accepted as its command (log 9). Every command is one 16-bit word (R60). -/
def State.withFetchWord (s : State) (_nbits w : Nat) : State := placeCommand (BitVec.ofNat 16 w) s

end Sys2Proof.Machine
end

