-- ==== Sys2Proof/Machine/Assembler.lean ====
section
/-! DEFINITION. HOST's notation: the assembler, the pseudo-instructions and their expansion into HOST's moves (R71, R72, R73). -/

namespace Sys2Proof.Machine

/-- A command line of the assembler, its operands as written (R71). -/
inductive AsmCommand where
  | buildOff
  | buildOn (mode : Nat) (temp : Int)
  | checksum (start stop : Nat)
  | encode
  | send (line : Nat)
deriving DecidableEq, Repr

/-- The word of a command line; refused when a field cannot hold its operand (R71). -/
def assemble : AsmCommand → Option HalfWord
  | .buildOff => some 0x1000
  | .buildOn mode temp =>
    if mode ≤ 7 ∧ -128 ≤ temp ∧ temp ≤ 255 then
      some (0x2000 ||| (BitVec.ofNat 16 mode <<< 8) ||| (BitVec.ofInt 16 temp &&& 0xFF))
    else none
  | .checksum start stop =>
    if start ≤ 31 ∧ stop ≤ 31 then some (0x3000 ||| (BitVec.ofNat 16 start <<< 5) ||| BitVec.ofNat 16 stop) else none
  | .encode => some 0x4000
  | .send line => if line ≤ 255 then some (0x5000 ||| BitVec.ofNat 16 line) else none

/-- The pseudo-instructions (R72). -/
inductive Pseudo where
  | xmitOff (line : Nat)
  | xmitOn (mode : Nat) (temp : Int) (line : Nat)
deriving DecidableEq, Repr

/-- The expansion of a pseudo-instruction (R72). -/
def expand : Pseudo → List AsmCommand
  | .xmitOff line => [.buildOff, .encode, .send line]
  | .xmitOn mode temp line => [.buildOn mode temp, .encode, .send line]

/-- A mode's selector, in R19's order. -/
def selectorOf : Mode → Nat
  | .auto => 0
  | .fan => 1
  | .dry => 2
  | .cool => 3
  | .heat => 4

/-- HOST's desired state (R72). -/
structure DesiredState where
  power : Bool
  mode : Mode
  targetTempCelsius : Int
deriving DecidableEq, Repr

/-- The transmission request for a desired state: mode and temperature are ignored when the power is off (R72). -/
def requestFor (d : DesiredState) (line : Nat) : Pseudo :=
  if d.power then .xmitOn (selectorOf d.mode) d.targetTempCelsius line else .xmitOff line

/-- A line of an assembler program. -/
inductive AsmLine where
  | command (c : AsmCommand)
  | pseudo (p : Pseudo)
deriving DecidableEq, Repr

/-- HOST's moves for the words of one line: the first is presented, the others only while no step Failed (R73). -/
def movesOf : List HalfWord → List HostMove
  | [] => []
  | w :: ws => .present w :: ws.map .presentIfOk

/-- HOST's moves for one line; none where the assembler refuses it. -/
def lineMoves : AsmLine → Option (List HostMove)
  | .command c => (assemble c).map fun w => [.present w]
  | .pseudo p => ((expand p).mapM assemble).map movesOf

/-- HOST's moves for a program, line after line. -/
def programMoves (ls : List AsmLine) : Option (List HostMove) := (ls.mapM lineMoves).map List.flatten

/-! ### The text (R71; log 22) -/

/-- White space between the parts of a line. -/
def isBlank (ch : Char) : Bool := ch == ' ' || ch == '\t'

/-- The characters without white space before and after. -/
def trim (cs : List Char) : List Char := ((cs.dropWhile isBlank).reverse.dropWhile isBlank).reverse

/-- The value of a decimal digit. -/
def decimalDigit (ch : Char) : Option Nat :=
  if '0' ≤ ch ∧ ch ≤ '9' then some (ch.toNat - 48) else none

/-- The value of a hexadecimal digit. -/
def hexDigit (ch : Char) : Option Nat :=
  if 'a' ≤ ch ∧ ch ≤ 'f' then some (ch.toNat - 87)
  else if 'A' ≤ ch ∧ ch ≤ 'F' then some (ch.toNat - 55)
  else decimalDigit ch

/-- Digits in a base, most significant first; none for an empty list or a character that is no digit. -/
def digitsValue (base : Nat) (digit : Char → Option Nat) : List Char → Option Nat
  | [] => none
  | cs => (cs.mapM digit).map (List.foldl (fun acc d => acc * base + d) 0)

/-- A number: decimal, or hexadecimal after `0x` (R71). -/
def parseNat : List Char → Option Nat
  | '0' :: 'x' :: cs => digitsValue 16 hexDigit cs
  | cs => digitsValue 10 decimalDigit cs

/-- A number that may carry a minus sign (a temperature). -/
def parseInt : List Char → Option Int
  | '-' :: cs => (parseNat cs).map fun n => -(n : Int)
  | cs => (parseNat cs).map fun n => (n : Int)

/-- A mode by name or by selector number (R71). -/
def parseMode (cs : List Char) : Option Nat :=
  if cs = "AUTO".toList then some 0
  else if cs = "FAN".toList then some 1
  else if cs = "DRY".toList then some 2
  else if cs = "COOL".toList then some 3
  else if cs = "HEAT".toList then some 4
  else parseNat cs

/-- The operands of a line, separated by commas; none written is the empty list (R71). -/
def operandsOf (cs : List Char) : List (List Char) :=
  if (trim cs).isEmpty then [] else (cs.splitOn ',').map trim

/-- A mnemonic with its operands (R71, R72). -/
def parseCommand (mnemonic : List Char) (ops : List (List Char)) : Option AsmLine :=
  match ops with
  | [] =>
    if mnemonic = "BUILD_OFF".toList then some (.command .buildOff)
    else if mnemonic = "ENCODE".toList then some (.command .encode)
    else none
  | [a] =>
    if mnemonic = "SEND".toList then (parseNat a).map fun l => .command (.send l)
    else if mnemonic = "XMIT_OFF".toList then (parseNat a).map fun l => .pseudo (.xmitOff l)
    else none
  | [a, b] =>
    if mnemonic = "BUILD_ON".toList then
      (parseMode a).bind fun m => (parseInt b).map fun t => .command (.buildOn m t)
    else if mnemonic = "CHECKSUM".toList then
      (parseNat a).bind fun x => (parseNat b).map fun y => .command (.checksum x y)
    else none
  | [a, b, d] =>
    if mnemonic = "XMIT_ON".toList then
      (parseMode a).bind fun m => (parseInt b).bind fun t => (parseNat d).map fun l => .pseudo (.xmitOn m t l)
    else none
  | _ => none

/-- One line of text: a comment starts at `;`; a line with nothing before it holds no command (R71). -/
def parseLine (cs : List Char) : Option (List AsmLine) :=
  let text := trim (cs.takeWhile (· ≠ ';'))
  if text.isEmpty then some []
  else
    (parseCommand (text.takeWhile (!isBlank ·)) (operandsOf (text.dropWhile (!isBlank ·)))).map fun l => [l]

/-- A program, one command a line (R71). -/
def parseProgram (lines : List (List Char)) : Option (List AsmLine) := (lines.mapM parseLine).map List.flatten

end Sys2Proof.Machine
end

