-- ==== Sys2Proof/Safety.lean ====
section
/-! DEFINITION. What counts as a safe run, and the spec's own pictures of a word, a frame, a sequence and a signal, for claims to compare the machine with. -/

namespace Sys2Proof.Machine

/-! ### Words -/

/-- R65's list of the illegal words, read off the word's bits as numbers. -/
def IllegalWord (w : HalfWord) : Prop :=
  let op := w.toNat / 4096
  let low := w.toNat % 4096
  (op = 0 ∨ 6 ≤ op) ∨
  ((op = 1 ∨ op = 4) ∧ low ≠ 0) ∨
  (op = 2 ∧ low / 2048 ≠ 0) ∨
  (op = 2 ∧ 5 ≤ low / 256 % 8) ∨
  (op = 3 ∧ low / 1024 ≠ 0) ∨
  (op = 5 ∧ low / 256 ≠ 0)

/-- What executing an illegal word does (R65): ILLEGAL_CMD, ST and the response register written, nothing else (ENV's inputs move on
as after every step). -/
def EndsIllegal (w : HalfWord) : Prop :=
  ∀ s : State, s.cmd = w → s.st = .busy →
    step s = .next (advanceEnv { s with rsp := 0x8800, rspValid := true, st := .idle })

/-- The response words R68 and R141 allow. -/
def LegalResponse (w : HalfWord) : Prop :=
  rspReserved w = 0 ∧
  (rspFailed w = false → rspErr w = 0) ∧
  (rspFailed w = true → rspData w = 0 ∧ ∃ c : Cause, rspErr w = causeCode c)

/-! ### Frames -/

/-- A frame a BUILD leaves (R17): the template, or the template with R82's two field writes for a mode and a temperature. -/
def BuiltFrame (c : Config) (f : FrameFile) : Prop :=
  f = c.template ∨
  ∃ (m : Mode) (temp b14 : Byte), tempByte c.tempPolicy temp = some b14 ∧ f = onFrame c.template (modeCode c m) b14

/-- R17's frame invariant: a built frame, with the checksum in byte 26 or not. -/
def TraceableFrame (c : Config) (f : FrameFile) : Prop :=
  ∃ g, BuiltFrame c g ∧ (f = g ∨ f = withChecksum g)

/-- The byte sum of `FRAME[a..b)` as a number (R90). -/
def frameSum (f : FrameFile) (a b : Nat) : Nat :=
  ((List.range' a (b - a)).map fun i => (f[i]?.getD 0).toNat).sum

/-- The table of mode codes by selector (R20). -/
def codeTable (c : Config) : List Byte := [c.codeAuto, c.codeFan, c.codeDry, 0x30, 0x40]

/-! ### Sequences -/

/-- Bit `j` of byte `i` of a frame, as an entry (R69). -/
def bitEntry (c : Config) (f : FrameFile) (i j : Nat) : Entry :=
  if (f[i]?.getD 0).getLsbD j then c.tOne else c.tZero

/-- The entry at index `k` of the sequence for a frame: the map of R49. -/
def layoutEntry (c : Config) (f : FrameFile) (k : Nat) : Entry :=
  if k = 0 then c.tHdr
  else if k ≤ 64 then bitEntry c f ((k - 1) / 8) ((k - 1) % 8)
  else if k = 65 then c.tPause
  else if k = 66 then c.tHdr
  else if k ≤ 210 then bitEntry c f (8 + (k - 67) / 8) ((k - 67) % 8)
  else if k ≤ 218 then
    if (frameSum f 8 26).testBit (k - 211) then c.tOne else c.tZero
  else ⟨c.tEndActive, 0⟩

/-- The sequence store R49 draws for a frame. -/
def layout (c : Config) (f : FrameFile) : EntryStore := Vector.ofFn fun k => layoutEntry c f k.val

/-- The time of an entry on the line, in microseconds. -/
def entryTime (e : Entry) : Nat := e.active.toNat + e.idle.toNat

/-- The number of 1 bits among the 216 bits of a frame (R180's n1). -/
def oneBits (f : FrameFile) : Nat :=
  (f.toList.map fun b => ((List.range 8).countP fun j => b.getLsbD j)).sum

/-! ### Signals -/

/-- The events SEND appends for a sequence when it is Sent, in the closed form of R133. -/
def sentEvents (p : EntryStore) : List Event :=
  [.claim, .config { freqHz := 38000, dutyPct := 50, idleLevel := .low }] ++
  ((p.toList.take 219).flatMap fun e => [.mark e.active, .space e.idle]) ++
  [.mark p[219].active, .release]

/-- A trace event's duration is in 1..65535 (R32). -/
def Event.timed : Event → Bool
  | .mark d => d ≠ 0
  | .space d => d ≠ 0
  | _ => true

/-- The phases in which TX holds the claim between two steps (R120, R129). -/
def TxPhase.holdsLine : TxPhase → Bool
  | .configure => true
  | .load => true
  | .emit => true
  | .release => true
  | _ => false

/-- What the SEND in flight has appended to its line's trace so far (R116). -/
def signalSoFar (s : State) : List Event :=
  match s.txPhase with
  | .configure => [.claim]
  | .load => [.claim, .config carrier]
  | .emit => [.claim, .config carrier] ++ (s.txbuf.toList.take s.txPtr.toNat).flatMap segments
  | .release => [.claim, .config carrier] ++ (s.txbuf.toList.take s.txPtr.toNat).flatMap segments
  | _ => []

/-- A line free for SEND: available, unclaimed, able to carry the carrier (95_test_vectors.md section 0). -/
def lineFree (e : EnvInputs) (l : Byte) : Bool :=
  let i := e.lines[l.toNat]'(line_lt l)
  i.available && !i.claimed && i.carrierOk

/-! ### The invariant -/

/-- What holds of the machine in every state a run reaches. -/
structure MachineInv (s : State) : Prop where
  /-- The parameters meet R4's constraints. -/
  params : s.cfg.WellFormed
  /-- The transmitter is OFF while the block is IDLE (R116). -/
  idleOff : s.st = .idle → s.txPhase = .off
  /-- No response stands while a command is in progress (R27). -/
  busyNoResponse : s.st = .busy → s.rspValid = false
  /-- A response is one of R68's words. -/
  response : s.rspValid = true → LegalResponse s.rsp
  /-- R17. -/
  frame : s.frameValid = true → TraceableFrame s.cfg s.frame
  /-- A valid sequence is ENCODE's for the frame held, checksum included (R25, R107). -/
  sequence : s.pseqValid = true →
    s.frameValid = true ∧ s.pseqLen = 220 ∧ s.frame = withChecksum s.frame ∧ s.pseq.toList = sequenceOf s.cfg s.frame
  /-- A SEND in flight has a sequence, its word is in CMD, and its line, which exists, is TX_LINE (R28, R117, R118). -/
  inFlight : s.txPhase ≠ .off →
    s.pseqValid = true ∧ decode s.cmd = .ok (.send s.txLine) ∧ lineExists s.cfg s.txLine = true
  /-- The block owns exactly the line of the SEND in flight, from its claim to its release (R53). -/
  owned : ∀ l, (lineAt s l).owned = true ↔ l = s.txLine ∧ s.txPhase.holdsLine = true
  /-- Every line is LOW between steps (R31; log 7). -/
  level : ∀ l, (lineAt s l).level = .low
  /-- A line is unconfigured or has the one carrier (R31). -/
  lineCfg : ∀ l, (lineAt s l).lineCfg = none ∨ (lineAt s l).lineCfg = some carrier
  /-- A line that does not exist is never touched (R118). -/
  absent : ∀ l, lineExists s.cfg l = false → lineAt s l = Line.reset
  /-- From LOAD on the line of the SEND in flight is configured (R121). -/
  configured : (s.txPhase = .load ∨ s.txPhase = .emit ∨ s.txPhase = .release) →
    (lineAt s s.txLine).lineCfg = some carrier
  /-- During EMIT the transmitter's copy is the sequence (R54, R122). -/
  loaded : (s.txPhase = .emit ∨ s.txPhase = .release) → s.txLen = 220 ∧ s.txbuf = s.pseq
  /-- TX_PTR names an entry while EMIT lasts (R28). -/
  pointer : s.txPhase = .emit → s.txPtr.toNat < 220
  /-- RELEASE follows the last entry (R123). -/
  allEmitted : s.txPhase = .release → s.txPtr = 220
  /-- The line's trace ends with what the SEND in flight has appended (R116, R51). -/
  trace : s.txPhase.holdsLine = true → signalSoFar s <:+ (lineAt s s.txLine).trace
  /-- Every duration in a trace is in 1..65535 (R32). -/
  durations : ∀ l, ∀ e ∈ (lineAt s l).trace, e.timed = true

end Sys2Proof.Machine
end

