-- ==== Sys2Proof/Certificates/Slice0/Obligations.lean ====
section
/-! DEFINITION. The statements for the provers, one definition each. OBLIGATIONS.json lists them. -/

open Sys2Proof Sys2Proof.Machine

/-! ### Encoding -/

/-- 95_test_vectors.md section 2.5: words written out from R61's formats decode to their commands, and reserved ones do not. -/
def Obligations.SpecWordsDecode : Prop :=
  decode 0b0001000000000000 = .ok .buildOff ∧
  decode 0b0010001100010000 = .ok (.buildOn 3 16) ∧
  decode 0b0011000100011010 = .ok (.checksum 8 26) ∧
  decode 0b0100000000000000 = .ok .encode ∧
  decode 0b0101000011111111 = .ok (.send 255) ∧
  decode 0b0000000000000000 = .error .reservedOpcode ∧
  decode 0b0110000000000000 = .error .reservedOpcode ∧
  decode 0b0001100000000000 = .error .reservedBits ∧
  decode 0b0010010100010000 = .error .reservedMode ∧
  decode 0b0011010100011010 = .error .reservedBits ∧
  decode 0b0101000100000000 = .error .reservedBits

/-- The decoder reads every well-formed command, with every value of its operands, back from its word. -/
def Obligations.DecodeInvertsEncode : Prop :=
  ∀ i : Instr, i.wf = true → decode (encode i) = .ok i

/-- The other direction: a word the decoder accepts is the encoding of a well-formed command. -/
def Obligations.DecodedWordIsItsEncoding : Prop :=
  ∀ (w : HalfWord) (i : Instr), decode w = .ok i → i.wf = true ∧ encode i = w

/-- R62: the rows of the opcode map, and that a word is the command of a row when `w & mask = match`. A legal word matches its
command's row, every word that matches a row and names a mode that exists is legal, no word matches two rows, and a word of a command's
opcode with a reserved bit set matches none. -/
def Obligations.OpcodeMapHolds : Prop :=
  (opcodeRow .buildOff = ⟨0x1000, 0xFFFF⟩ ∧ (∀ m b, opcodeRow (.buildOn m b) = ⟨0x2000, 0xF800⟩) ∧
    (∀ a b, opcodeRow (.checksum a b) = ⟨0x3000, 0xFC00⟩) ∧ opcodeRow .encode = ⟨0x4000, 0xFFFF⟩ ∧
    (∀ l, opcodeRow (.send l) = ⟨0x5000, 0xFF00⟩) ∧
    opcodeRows = [⟨0x1000, 0xFFFF⟩, ⟨0x2000, 0xF800⟩, ⟨0x3000, 0xFC00⟩, ⟨0x4000, 0xFFFF⟩, ⟨0x5000, 0xFF00⟩]) ∧
  (∀ (w : HalfWord) (i : Instr), decode w = .ok i → w &&& (opcodeRow i).mask = (opcodeRow i).pattern) ∧
  (∀ (w : HalfWord) (r : OpcodeRow), r ∈ opcodeRows → w &&& r.mask = r.pattern →
    (∃ i, decode w = .ok i ∧ opcodeRow i = r) ∨ decode w = .error .reservedMode) ∧
  (∀ (w : HalfWord) (r r' : OpcodeRow), r ∈ opcodeRows → r' ∈ opcodeRows →
    w &&& r.mask = r.pattern → w &&& r'.mask = r'.pattern → r = r') ∧
  (∀ w : HalfWord, decode w = .error .reservedBits → ∀ r ∈ opcodeRows, w &&& r.mask ≠ r.pattern)

/-- R65: the illegal words are the listed ones, every other word is one of the five commands; an illegal word is accepted from the
port like any other, and its execution changes nothing but ST, RSP and RSP_VALID (ENV's inputs move on as after every step). -/
def Obligations.IllegalWordsFail : Prop :=
  (∀ w : HalfWord, IllegalWord w ↔ ∃ e, decode w = .error e) ∧
  IllegalWord 0 ∧
  (∀ (s : State) (w : HalfWord) (q : List HostMove), IllegalWord w → s.st = .idle → s.hostPlan = .present w :: q →
    step s = .next (advanceEnv { s with cmd := w, st := .busy, rspValid := false, hostPlan := q })) ∧
  (∀ w : HalfWord, IllegalWord w → EndsIllegal w)

/-! ### The machine -/

/-- While the block is BUSY a step is `exec` of the command CMD holds, with ENV's inputs moved on; and a word placed for the next
step is the command that step runs. -/
def Obligations.StepRunsTheCommandInCmd : Prop :=
  (∀ (s : State) (i : Instr), s.st = .busy → decode s.cmd = .ok i → step s = afterStep (exec i s)) ∧
  (∀ (s : State) (i : Instr), i.wf = true →
    step (s.withFetchWord 16 (encode i).toNat) = afterStep (exec i (s.withFetchWord 16 (encode i).toNat)))

/-- R27: CMD_READY is 1 exactly when ST is IDLE; a command is accepted in exactly the steps where CMD_VALID and CMD_READY are 1; the
step copies CMD, sets ST to BUSY and clears RSP_VALID; while BUSY nothing is accepted and HOST's moves are held, not lost; at the end
of an operation RSP, RSP_VALID and ST are written in one step, and until then none of them is. -/
def Obligations.CommandPortHandshake : Prop :=
  (∀ s : State, cmdReady s = true ↔ s.st = .idle) ∧
  (∀ s t : State, step s = .next t → ((s.st = .idle ∧ t.st = .busy) ↔ (cmdValid s = true ∧ cmdReady s = true))) ∧
  (∀ (s : State) (w : HalfWord) (q : List HostMove), s.st = .idle → s.hostPlan = .present w :: q →
    step s = .next (advanceEnv { s with cmd := w, st := .busy, rspValid := false, hostPlan := q })) ∧
  (∀ s t : State, s.st = .busy → step s = .next t →
    t.hostPlan = s.hostPlan ∧ t.cmd = s.cmd ∧
    ((t.st = .idle ∧ t.rspValid = true) ∨ (t.st = .busy ∧ t.rsp = s.rsp ∧ t.rspValid = s.rspValid)))

/-- R73: HOST presents the next word of an expansion only when the response before it is a success, and drops it otherwise. -/
def Obligations.ExpansionStopsAtFailed : Prop :=
  ∀ (s : State) (w : HalfWord) (q : List HostMove), s.st = .idle → s.hostPlan = .presentIfOk w :: q → s.rspValid = true →
    (rspFailed s.rsp = false →
      step s = .next (advanceEnv { s with cmd := w, st := .busy, rspValid := false, hostPlan := q })) ∧
    (rspFailed s.rsp = true → step s = .next (advanceEnv { s with hostPlan := q }))

/-- The reset table of R36 as a predicate on a state: every value the table gives. (The contents it calls unspecified are free
values, log 4, and are not named.) -/
def Sys2Proof.Machine.AtReset (t : State) : Prop :=
  t.st = .idle ∧ t.rspValid = false ∧ t.frameValid = false ∧ t.pseqLen = 0 ∧ t.pseqValid = false ∧
  t.txPhase = .off ∧ t.txPtr = 0 ∧ t.txLen = 0 ∧
  (∀ l, (lineAt t l).owned = false ∧ (lineAt t l).lineCfg = none ∧ (lineAt t l).level = .low ∧ (lineAt t l).trace = [])

/-- R36: the state right after power-on, and the state after RESET is asserted while IDLE, have the reset table's values; RESET does
not touch the constant tables. There is no initial command: with none presented the block waits. -/
def Obligations.ResetTable : Prop :=
  AtReset State.reset ∧ step State.reset = .next State.reset ∧
  (∀ (s : State) (q : List HostMove), s.st = .idle → s.hostPlan = .reset :: q →
    ∃ t, step s = .next t ∧ AtReset t ∧ t.cfg = s.cfg ∧ t.hostPlan = q)

/-- R166: after reset the block is ready and waits; no command is executed; of the commands only a BUILD can succeed, CHECKSUM and
ENCODE fail with NO_FRAME and SEND with NO_SEQUENCE. -/
def Obligations.AfterReset : Prop :=
  cmdReady State.reset = true ∧
  step State.reset = .next State.reset ∧
  (∀ s : State, s.st = .idle → s.hostPlan = [] → step s = .next (advanceEnv s)) ∧
  (∃ t, exec .buildOff State.reset = .next t ∧ rspFailed t.rsp = false) ∧
  (∀ mode : BitVec 3, mode.toNat < 5 → ∃ t, exec (.buildOn mode 16) State.reset = .next t ∧ rspFailed t.rsp = false) ∧
  (∀ a b, exec (.checksum a b) State.reset = .next { State.reset with rsp := 0x8900, rspValid := true }) ∧
  exec .encode State.reset = .next { State.reset with rsp := 0x8900, rspValid := true } ∧
  (∀ l, exec (.send l) State.reset = .next { State.reset with rsp := 0x8A00, rspValid := true })

/-! ### The Command Frame Builder -/

/-- R81: BUILD_OFF, whose word is 0x1000, copies the template, sets FRAME_VALID, clears PSEQ_VALID and responds 0x0000, and writes nothing else; twice it
gives the same frame; a word of its opcode with another bit set ends ILLEGAL_CMD. -/
def Obligations.BuildOffCopiesTemplate : Prop :=
  encode .buildOff = 0x1000 ∧
  (∀ s : State, exec .buildOff s = .next { s with
      frame := s.cfg.template, frameValid := true, pseqValid := false, rsp := 0x0000, rspValid := true, st := .idle }) ∧
  (∀ s t u : State, exec .buildOff s = .next t → exec .buildOff t = .next u → u.frame = t.frame) ∧
  (∀ w : HalfWord, opField w = 1 → reservedN w ≠ 0 → EndsIllegal w)

/-- R82: BUILD_ON, whose word is `0x2000 | (MODE << 8) | TEMP`, leaves for every mode and every temperature its policy accepts the
template with byte 13 ORed with 0x01 and the mode's code and byte 14 replaced, the flags of a BUILD, the response 0x0000, and nothing
else. A selector that names no mode fails with ILLEGAL_CMD whatever the temperature, then a temperature REJECT refuses with TEMP_RANGE;
each changes only the response and ST. A word of its opcode with bit 11 set ends ILLEGAL_CMD. With parameters that meet R4 the OR sets bit 0
of byte 13, keeps bits 3:1 of the template's and gives the OR of the two nibbles in bits 7:4. -/
def Obligations.BuildOnBuildsTheFrame : Prop :=
  (∀ (mode : BitVec 3) (temp : Byte),
    encode (.buildOn mode temp) = 0x2000 ||| (mode.setWidth 16 <<< 8) ||| temp.setWidth 16) ∧
  (∀ (s : State) (mode : BitVec 3) (temp b14 : Byte) (h : mode.toNat < 5), tempByte s.cfg.tempPolicy temp = some b14 →
    exec (.buildOn mode temp) s = .next { s with
      frame := (s.cfg.template.set 13
        (s.cfg.template[13] ||| 0x01 ||| (codeTable s.cfg)[mode.toNat]'(by simpa [codeTable] using h))).set 14 b14
      frameValid := true, pseqValid := false, rsp := 0x0000, rspValid := true, st := .idle }) ∧
  (∀ (s : State) (mode : BitVec 3) (temp : Byte), 5 ≤ mode.toNat →
    exec (.buildOn mode temp) s = .next { s with rsp := 0x8800, rspValid := true, st := .idle }) ∧
  (∀ (s : State) (mode : BitVec 3) (temp : Byte), mode.toNat < 5 → s.cfg.tempPolicy = .reject →
    (temp.toInt < 16 ∨ 30 < temp.toInt) →
    exec (.buildOn mode temp) s = .next { s with rsp := 0x8C00, rspValid := true, st := .idle }) ∧
  (∀ w : HalfWord, opField w = 2 → reservedB w ≠ 0 → EndsIllegal w) ∧
  (∀ (c : Config) (code : Byte), c.WellFormed → code ∈ codeTable c →
    (c.template[13] ||| 0x01 ||| code).getLsbD 0 = true ∧
    (∀ j, 1 ≤ j → j ≤ 3 → (c.template[13] ||| 0x01 ||| code).getLsbD j = c.template[13].getLsbD j) ∧
    (∀ j, 4 ≤ j → j ≤ 7 → (c.template[13] ||| 0x01 ||| code).getLsbD j = (c.template[13].getLsbD j || code.getLsbD j)))

/-- R83: the temperature byte under each policy, and the one byte all three give in 16..30. -/
def Obligations.TemperatureBytePolicies : Prop :=
  (∀ temp : Byte, ∃ b, tempByte .passthrough temp = some b ∧ b.toNat = 2 * temp.toNat % 256) ∧
  (∀ temp : Byte, ∃ b, tempByte .clamp temp = some b ∧ (b.toNat : Int) = 2 * max 16 (min 30 temp.toInt)) ∧
  (∀ temp : Byte, (temp.toInt < 16 ∨ 30 < temp.toInt) → tempByte .reject temp = none) ∧
  (∀ (p : TempPolicy) (temp : Byte), 16 ≤ temp.toInt → temp.toInt ≤ 30 →
    ∃ b, tempByte p temp = some b ∧ (b.toNat : Int) = 2 * temp.toInt)

/-- R84: what BUILD_ON does to each field for a temperature in 16..30, under every policy, with parameters that meet R4. -/
def Obligations.BuildOnFieldBits : Prop :=
  ∀ (s : State) (mode : BitVec 3) (temp : Byte) (h : mode.toNat < 5), s.cfg.WellFormed →
    16 ≤ temp.toInt → temp.toInt ≤ 30 →
    ∃ t, exec (.buildOn mode temp) s = .next t ∧
      t.frame[13].getLsbD 0 = true ∧
      (∀ j, 1 ≤ j → j ≤ 3 → t.frame[13].getLsbD j = s.cfg.template[13].getLsbD j) ∧
      (∀ j, 4 ≤ j → j ≤ 7 → t.frame[13].getLsbD j =
        (s.cfg.template[13].getLsbD j || ((codeTable s.cfg)[mode.toNat]'(by simpa [codeTable] using h)).getLsbD j)) ∧
      (t.frame[14].toNat : Int) = 2 * temp.toInt ∧
      (∀ (i : Nat) (hi : i < 27), i ≠ 13 → i ≠ 14 → t.frame[i] = s.cfg.template[i])

/-- R80, R175: a BUILD that succeeds leaves a frame that does not depend on what the block held before. -/
def Obligations.BuildForgetsThePast : Prop :=
  ∀ (i : Instr) (s s' : State), (i = .buildOff ∨ ∃ mode temp, i = .buildOn mode temp) → s.cfg = s'.cfg →
    ∃ t t', exec i s = .next t ∧ exec i s' = .next t' ∧ t.rsp = t'.rsp ∧
      (rspFailed t.rsp = false → t.frame = t'.frame ∧
        t.frameValid = true ∧ t'.frameValid = true ∧ t.pseqValid = false ∧ t'.pseqValid = false)

/-! ### The Checksum Calculator -/

/-- R90, R91: CHECKSUM, whose word is `0x3000 | (START << 5) | END`, responds the byte sum of the range modulo 256 and writes nothing else; it fails with NO_FRAME without a frame
and then with BAD_RANGE on a range that is reversed or runs past the frame; a word of its opcode with a reserved bit set ends ILLEGAL_CMD. -/
def Obligations.ChecksumOfTheRange : Prop :=
  (∀ a b : BitVec 5, encode (.checksum a b) = 0x3000 ||| (a.setWidth 16 <<< 5) ||| b.setWidth 16) ∧
  (∀ (s : State) (a b : BitVec 5), s.frameValid = true → a.toNat ≤ b.toNat → b.toNat ≤ 27 →
    exec (.checksum a b) s = .next { s with
      rsp := BitVec.ofNat 16 (frameSum s.frame a.toNat b.toNat % 256), rspValid := true, st := .idle }) ∧
  (∀ (s : State) (a b : BitVec 5), s.frameValid = false →
    exec (.checksum a b) s = .next { s with rsp := 0x8900, rspValid := true, st := .idle }) ∧
  (∀ (s : State) (a b : BitVec 5), s.frameValid = true → (b.toNat < a.toNat ∨ 27 < b.toNat) →
    exec (.checksum a b) s = .next { s with rsp := 0x8B00, rspValid := true, st := .idle }) ∧
  (∀ w : HalfWord, opField w = 3 → reservedC w ≠ 0 → EndsIllegal w)

/-- R92 (b): the checksum of a range is the sum of the checksums of any split of it, and no order of the bytes matters. -/
def Obligations.ChecksumSplitsAndPermutes : Prop :=
  (∀ (f : FrameFile) (a k b : Nat), a ≤ k → k ≤ b → b ≤ 27 → cksum f a b = cksum f a k + cksum f k b) ∧
  (∀ bs cs : List Byte, bs.Perm cs → byteSum bs = byteSum cs)

/-- R94: `CHECKSUM i, i+1` reads frame byte `i` back. -/
def Obligations.ChecksumReadsBack : Prop :=
  ∀ (s : State) (i : Nat) (h : i < 27), s.frameValid = true →
    exec (.checksum (BitVec.ofNat 5 i) (BitVec.ofNat 5 (i + 1))) s =
      .next { s with rsp := (s.frame[i]).setWidth 16, rspValid := true, st := .idle }

/-! ### The Pulse Encoder -/

/-- R101: ENCODE, whose word is 0x4000, with a frame leaves PSEQ, place by place, as R101's seven steps append it (R49's map), byte 26
the checksum of bytes 8 to 25, PSEQ_LEN 220, PSEQ_VALID set, the response 0x00DC, and writes nothing else; without a frame it fails
with NO_FRAME and changes only the response and ST; a word of its opcode with another bit set ends ILLEGAL_CMD. -/
def Obligations.EncodeWritesTheLayout : Prop :=
  encode .encode = 0x4000 ∧
  (∀ s : State, s.frameValid = true →
    exec .encode s = .next { s with
      pseq := layout s.cfg s.frame, pseqLen := 220, pseqValid := true
      frame := s.frame.set 26 (BitVec.ofNat 8 (frameSum s.frame 8 26))
      rsp := 0x00DC, rspValid := true, st := .idle }) ∧
  (∀ s : State, s.frameValid = false →
    exec .encode s = .next { s with rsp := 0x8900, rspValid := true, st := .idle }) ∧
  (∀ w : HalfWord, opField w = 4 → reservedN w ≠ 0 → EndsIllegal w)

/-- R109: the inverse reader gets all 27 bytes of FRAME, the checksum included, back from the sequence ENCODE leaves. -/
def Obligations.EncodeRoundTrip : Prop :=
  ∀ s : State, s.cfg.tZero ≠ s.cfg.tOne → s.frameValid = true →
    ∃ t, exec .encode s = .next t ∧ ∀ (k : Nat) (h : k < 27), readByte t.cfg t.pseq k = some t.frame[k]

/-- R108: the sequence is a function of the timing constants and of frame bytes 0 to 25 alone, whatever else the two states hold;
encoding twice gives it again; ENCODE touches no line. -/
def Obligations.EncodeIsDeterministic : Prop :=
  (∀ s s' : State, s.cfg.tHdr = s'.cfg.tHdr → s.cfg.tZero = s'.cfg.tZero → s.cfg.tOne = s'.cfg.tOne →
    s.cfg.tPause = s'.cfg.tPause → s.cfg.tEndActive = s'.cfg.tEndActive → s.frameValid = true → s'.frameValid = true →
    (∀ (i : Nat) (h : i < 26), s.frame[i] = s'.frame[i]) →
    ∃ t t', exec .encode s = .next t ∧ exec .encode s' = .next t' ∧ t.pseq = t'.pseq ∧ t.frame = t'.frame ∧
      ∀ l, lineAt t l = lineAt s l) ∧
  (∀ s t u : State, s.frameValid = true → exec .encode s = .next t → exec .encode t = .next u →
    u.pseq = t.pseq ∧ u.frame = t.frame)

/-- R180: the time of the sequence on the line, from the number of 1 bits in the 27 bytes it carries. -/
def Obligations.SignalLength : Prop :=
  ∀ s : State, s.frameValid = true →
    ∃ t, exec .encode s = .next t ∧ oneBits t.frame ≤ 216 ∧
      (t.pseq.toList.map entryTime).sum =
        2 * entryTime s.cfg.tHdr + entryTime s.cfg.tPause + oneBits t.frame * entryTime s.cfg.tOne +
          (216 - oneBits t.frame) * entryTime s.cfg.tZero + s.cfg.tEndActive.toNat

/-! ### The Transmission Driver -/

/-- R117, R118, R119: SEND's admission. The first check that fails is the one reported, whatever the later inputs are; with all of
them passed the line is in TX_LINE and the phase is CLAIM. No line is touched. That a passed admission is a step of its own, which ends
in phase CLAIM, is the model's reading of R116 (log 5, DEDUCED; 95_test_vectors.md V-H2 writes `ADMIT/CLAIM`). -/
def Obligations.SendAdmission : Prop :=
  ∀ (s : State) (l : Byte), s.txPhase = .off →
    (s.pseqValid = false → exec (.send l) s = .next { s with rsp := 0x8A00, rspValid := true, st := .idle }) ∧
    (s.pseqValid = true → s.cfg.nLines ≤ l.toNat →
      exec (.send l) s = .next { s with rsp := 0x8100, rspValid := true, st := .idle }) ∧
    (s.pseqValid = true → l.toNat < s.cfg.nLines → (inputsAt s l).available = false →
      exec (.send l) s = .next { s with txLine := l, rsp := 0x8200, rspValid := true, st := .idle }) ∧
    (s.pseqValid = true → l.toNat < s.cfg.nLines → (inputsAt s l).available = true →
      exec (.send l) s = .next { s with txLine := l, txPhase := .claim })

/-- R120: in phase CLAIM a line another component holds fails with HW_BUSY, its trace untouched; otherwise the claim is taken and
the event CLAIM appended. -/
def Obligations.SendClaims : Prop :=
  ∀ (s : State) (l : Byte), s.txPhase = .claim →
    ((inputsAt s l).claimed = true →
      exec (.send l) s = .next { s with txPhase := .off, rsp := 0x8400, rspValid := true, st := .idle }) ∧
    ((inputsAt s l).claimed = false →
      ∃ t, exec (.send l) s = .next t ∧ t = { s with txPhase := .configure, lines := t.lines } ∧
        (lineAt t l).owned = true ∧ (lineAt t l).lineCfg = (lineAt s l).lineCfg ∧
        (lineAt t l).trace = (lineAt s l).trace ++ [.claim] ∧ (∀ m, m ≠ l → lineAt t m = lineAt s m))

/-- R121, R129: in phase CONFIGURE a line that cannot carry the carrier is released and SEND fails with CFG_UNSUPPORTED_CARRIER;
otherwise the line gets the one configuration, whatever it held, and the event CONFIG is appended. -/
def Obligations.SendConfigures : Prop :=
  ∀ (s : State) (l : Byte), s.txPhase = .configure →
    ((inputsAt s l).carrierOk = false →
      ∃ t, exec (.send l) s = .next t ∧
        t = { s with txPhase := .off, rsp := 0x8300, rspValid := true, st := .idle, lines := t.lines } ∧
        (lineAt t l).owned = false ∧ (lineAt t l).lineCfg = (lineAt s l).lineCfg ∧ (lineAt t l).level = .low ∧
        (lineAt t l).trace = (lineAt s l).trace ++ [.release] ∧ (∀ m, m ≠ l → lineAt t m = lineAt s m)) ∧
    ((inputsAt s l).carrierOk = true →
      ∃ t, exec (.send l) s = .next t ∧ t = { s with txPhase := .load, lines := t.lines } ∧
        (lineAt t l).owned = (lineAt s l).owned ∧
        (lineAt t l).lineCfg = some { freqHz := 38000, dutyPct := 50, idleLevel := .low } ∧
        (lineAt t l).trace = (lineAt s l).trace ++ [.config { freqHz := 38000, dutyPct := 50, idleLevel := .low }] ∧
        (∀ m, m ≠ l → lineAt t m = lineAt s m))

/-- R122: LOAD copies the first PSEQ_LEN entries into TXBUF, whatever they are, and sets TX_LEN and TX_PTR; PSEQ_LEN is 220 whenever
the machine's invariant holds and PSEQ_VALID is 1, so LOAD cannot fail. -/
def Obligations.SendLoads : Prop :=
  (∀ (s : State) (l : Byte), s.txPhase = .load → s.pseqLen.toNat ≤ 220 →
    ∃ t, exec (.send l) s = .next t ∧
      t = { s with txPhase := .emit, txbuf := t.txbuf, txLen := s.pseqLen, txPtr := 0 } ∧
      ∀ (k : Nat) (h : k < 220), t.txbuf[k] = if k < s.pseqLen.toNat then s.pseq[k] else s.txbuf[k]) ∧
  (∀ (s : State) (l : Byte), MachineInv s → s.pseqValid = true →
    s.pseqLen = 220 ∧ (s.txPhase = .load → ∃ t, exec (.send l) s = .next t))

/-- R123: a step of EMIT without a fault emits exactly the entry at TX_PTR, MARK first, and SPACE unless its idle count is 0;
TX_PTR advances by one; the phase stays EMIT unless the entry was the terminator or the last one. -/
def Obligations.SendEmitsOneEntry : Prop :=
  ∀ (s : State) (l : Byte) (h : s.txPtr.toNat < 220), s.txPhase = .emit → s.txPtr.toNat < s.txLen.toNat →
    drawHwFault s = false →
    ∃ t, exec (.send l) s = .next t ∧
      t = { s with txPhase := t.txPhase, txPtr := t.txPtr, lines := t.lines } ∧
      t.txPtr.toNat = s.txPtr.toNat + 1 ∧
      (t.txPhase = if s.txbuf[s.txPtr.toNat].idle = 0 ∨ s.txPtr.toNat + 1 = s.txLen.toNat then .release else .emit) ∧
      (lineAt t l).owned = (lineAt s l).owned ∧ (lineAt t l).lineCfg = (lineAt s l).lineCfg ∧
      ((lineAt t l).trace = (lineAt s l).trace ++ (.mark s.txbuf[s.txPtr.toNat].active ::
        if s.txbuf[s.txPtr.toNat].idle = 0 then [] else [.space s.txbuf[s.txPtr.toNat].idle])) ∧
      (∀ m, m ≠ l → lineAt t m = lineAt s m)

/-- R124, R129: a fault drawn at a step of EMIT ends SEND with HW_FAULT before that step's entry: the line released, TX_PTR kept at
the first entry not emitted, the sequence kept. (What a real line shows of the entry cut off is not claimed, log 16.) With HW_FAULT_MODEL = NEVER no step of SEND ends so. -/
def Obligations.SendFaultsInEmission : Prop :=
  (∀ (s : State) (l : Byte), s.txPhase = .emit → s.txPtr.toNat < s.txLen.toNat → drawHwFault s = true →
    ∃ t, exec (.send l) s = .next t ∧
      t = { s with txPhase := .off, rsp := 0x8500, rspValid := true, st := .idle, lines := t.lines } ∧
      (lineAt t l).owned = false ∧ (lineAt t l).lineCfg = (lineAt s l).lineCfg ∧ (lineAt t l).level = .low ∧
      (lineAt t l).trace = (lineAt s l).trace ++ [.release] ∧ (∀ m, m ≠ l → lineAt t m = lineAt s m)) ∧
  (∀ (s t : State) (l : Byte), s.cfg.hwFaultModel = .never → s.rsp ≠ 0x8500 →
    exec (.send l) s = .next t → t.rsp ≠ 0x8500)

/-- R125, R127: phase RELEASE drops the claim, appends RELEASE, keeps the configuration, discards the request's data without erasing
them, and responds 0x0000: Sent. -/
def Obligations.SendReleasesAndIsSent : Prop :=
  ∀ (s : State) (l : Byte), s.txPhase = .release →
    ∃ t, exec (.send l) s = .next t ∧
      t = { s with txPhase := .off, frameValid := false, pseqValid := false, rsp := 0x0000, rspValid := true, st := .idle,
                   lines := t.lines } ∧
      (lineAt t l).owned = false ∧ (lineAt t l).lineCfg = (lineAt s l).lineCfg ∧ (lineAt t l).level = .low ∧
      (lineAt t l).trace = (lineAt s l).trace ++ [.release] ∧ (∀ m, m ≠ l → lineAt t m = lineAt s m)

/-- R116, R133: a SEND accepted with a valid sequence, on an existing line that is free throughout and with no fault drawn, is Sent
after 225 steps, and its line's trace has grown by exactly R133's events. The number of steps is the model's (log 5), and that SEND ends
at all rests on the hardware never hanging in mid-emission (log 12, U9). -/
def Obligations.SendRunsToSent : Prop :=
  ∀ (s : State) (l : Byte), MachineInv s → s.st = .busy → s.txPhase = .off → decode s.cmd = .ok (.send l) →
    s.pseqValid = true → l.toNat < s.cfg.nLines →
    (∀ e ∈ s.env :: s.envPlan, lineFree e l = true ∧ (s.cfg.hwFaultModel = .any → e.hwFault = false)) →
    ∃ t, Sys2Proof.core.run 225 s = .next t ∧
      t.rsp = 0x0000 ∧ t.rspValid = true ∧ t.st = .idle ∧ t.txPhase = .off ∧ t.txPtr = 220 ∧
      t.frameValid = false ∧ t.pseqValid = false ∧ t.frame = s.frame ∧ t.pseq = s.pseq ∧
      (lineAt t l).trace = (lineAt s l).trace ++ sentEvents s.pseq ∧
      (lineAt t l).owned = false ∧ (lineAt t l).lineCfg = some carrier ∧ (lineAt t l).level = .low ∧
      (∀ m, m ≠ l → lineAt t m = lineAt s m)

/-- R72 run on the machine: HOST's three words of XMIT_OFF or XMIT_ON, from any idle state that meets the invariant, on a free line
with no fault drawn, put on the line exactly the signal R49 and R133 draw for the frame asked for, and the last response is Sent. A
temperature is any number the assembler takes, one with a minus sign too. HOST as a plan and the number of steps are the model's (logs 2,
5, 20), and that SEND ends at all rests on the hardware never hanging in mid-emission (log 12, U9). -/
def Obligations.TransmissionRequestOnTheWire : Prop :=
  ∀ (s : State) (p : Pseudo) (f : FrameFile) (l : Byte) (q : List HostMove), MachineInv s → s.st = .idle →
    (p = .xmitOff l.toNat ∧ f = s.cfg.template ∨
      ∃ (m : Mode) (temp : Int) (b14 : Byte), p = .xmitOn (selectorOf m) temp l.toNat ∧
        tempByte s.cfg.tempPolicy (BitVec.ofInt 8 temp) = some b14 ∧ f = onFrame s.cfg.template (modeCode s.cfg m) b14) →
    (lineMoves (.pseudo p)).map (· ++ q) = some s.hostPlan → l.toNat < s.cfg.nLines →
    (∀ e ∈ s.env :: s.envPlan, lineFree e l = true ∧ (s.cfg.hwFaultModel = .any → e.hwFault = false)) →
    ∃ t, Sys2Proof.core.run 230 s = .next t ∧ t.hostPlan = q ∧
      t.rsp = 0x0000 ∧ t.rspValid = true ∧ t.st = .idle ∧ t.frameValid = false ∧ t.pseqValid = false ∧
      (lineAt t l).trace = (lineAt s l).trace ++ sentEvents (layout s.cfg f) ∧
      (∀ m, m ≠ l → lineAt t m = lineAt s m)

/-! ### Frames: what the commands leave alone -/

/-- BUILD_OFF, BUILD_ON, CHECKSUM and ENCODE, whatever their outcome, touch no register of the transmitter, no line, no parameter,
not CMD and nothing of HOST or ENV; CHECKSUM touches no store and no flag either, and ENCODE not FRAME_VALID and no frame byte but 26. -/
def Obligations.SequencerFrame : Prop :=
  (∀ (i : Instr) (s t : State), (∀ l, i ≠ .send l) → exec i s = .next t →
    t.cfg = s.cfg ∧ t.cmd = s.cmd ∧ t.txPhase = s.txPhase ∧ t.txPtr = s.txPtr ∧ t.txLen = s.txLen ∧ t.txLine = s.txLine ∧
    t.txbuf = s.txbuf ∧ (∀ l, lineAt t l = lineAt s l) ∧ t.env = s.env ∧ t.envPlan = s.envPlan ∧
    t.hostPlan = s.hostPlan ∧ t.resetCount = s.resetCount) ∧
  (∀ (s t : State), exec .buildOff s = .next t ∨ (∃ m b, exec (.buildOn m b) s = .next t) →
    t.pseq = s.pseq ∧ t.pseqLen = s.pseqLen) ∧
  (∀ (a b : BitVec 5) (s t : State), exec (.checksum a b) s = .next t →
    t.frame = s.frame ∧ t.frameValid = s.frameValid ∧ t.pseq = s.pseq ∧ t.pseqLen = s.pseqLen ∧ t.pseqValid = s.pseqValid) ∧
  (∀ s t : State, exec .encode s = .next t →
    t.frameValid = s.frameValid ∧ ∀ (k : Nat) (h : k < 26), t.frame[k] = s.frame[k])

/-- SEND in every phase: it writes no frame byte, no place of PSEQ, no parameter, not CMD, nothing of HOST or ENV and no other line;
TX_LINE only at admission and TXBUF and TX_LEN only in LOAD; the valid flags change only in RELEASE. -/
def Obligations.SendFrame : Prop :=
  ∀ (l : Byte) (s t : State), exec (.send l) s = .next t →
    t.cfg = s.cfg ∧ t.cmd = s.cmd ∧ t.frame = s.frame ∧ t.pseq = s.pseq ∧ t.pseqLen = s.pseqLen ∧
    t.env = s.env ∧ t.envPlan = s.envPlan ∧ t.hostPlan = s.hostPlan ∧ t.resetCount = s.resetCount ∧
    (∀ m, m ≠ l → lineAt t m = lineAt s m) ∧
    (s.txPhase ≠ .off → t.txLine = s.txLine) ∧
    (s.txPhase ≠ .load → t.txbuf = s.txbuf ∧ t.txLen = s.txLen) ∧
    (s.txPhase ≠ .load → s.txPhase ≠ .emit → t.txPtr = s.txPtr) ∧
    (s.txPhase ≠ .release → t.frameValid = s.frameValid ∧ t.pseqValid = s.pseqValid)

/-- R35: no step changes a parameter. -/
def Obligations.ParametersNeverChange : Prop :=
  ∀ s t : State, step s = .next t → t.cfg = s.cfg

/-- R48: of the frame only bytes 13, 14 and 26 ever hold anything but the template's; no step but a RESET gives any other byte
a value that is neither its old one nor the template's, and none but a BUILD or an ENCODE changes a byte at all. -/
def Obligations.OnlyThreeFrameBytesVary : Prop :=
  (∀ s : State, MachineInv s → s.frameValid = true →
    ∀ (k : Nat) (h : k < 27), k ≠ 13 → k ≠ 14 → k ≠ 26 → s.frame[k] = s.cfg.template[k]) ∧
  (∀ s t : State, s.st = .busy → step s = .next t →
    ∀ (k : Nat) (h : k < 27), k ≠ 13 → k ≠ 14 → k ≠ 26 → t.frame[k] = s.frame[k] ∨ t.frame[k] = s.cfg.template[k]) ∧
  (∀ s t : State, s.st = .busy → step s = .next t → t.frame ≠ s.frame →
    decode s.cmd = .ok .buildOff ∨ (∃ m b, decode s.cmd = .ok (.buildOn m b)) ∨ decode s.cmd = .ok .encode)

/-- R32: no step but a RESET removes an event from a trace, and a step changes no line but the one named by the SEND it runs. -/
def Obligations.TracesOnlyGrow : Prop :=
  ∀ s t : State, step s = .next t → (∀ q, s.st = .idle → s.hostPlan ≠ .reset :: q) →
    (∀ l, (lineAt s l).trace <+: (lineAt t l).trace) ∧
    (∀ l, lineAt t l ≠ lineAt s l → s.st = .busy ∧ decode s.cmd = .ok (.send l))

/-- R30, R145: ENV's inputs are sampled only where R116 names them. Another level of every other input changes nothing: SEND looks at
`env.AVAILABLE` of its line at admission once a sequence and the line exist, at `env.CLAIMED` in CLAIM, at `env.CARRIER_OK` in CONFIGURE, at the draw in EMIT, and at
none in LOAD and RELEASE; the other commands look at none. -/
def Obligations.InputsAreSampledOnlyWhereNamed : Prop :=
  ∀ (i : Instr) (s t : State) (e : EnvInputs), exec i s = .next t →
    (∀ l, i = .send l →
      (s.txPhase = .off → s.pseqValid = true → lineExists s.cfg l = true →
        (inputsAt { s with env := e } l).available = (inputsAt s l).available) ∧
      (s.txPhase = .claim → (inputsAt { s with env := e } l).claimed = (inputsAt s l).claimed) ∧
      (s.txPhase = .configure → (inputsAt { s with env := e } l).carrierOk = (inputsAt s l).carrierOk) ∧
      (s.txPhase = .emit → drawHwFault { s with env := e } = drawHwFault s)) →
    exec i { s with env := e } = .next { t with env := e }

/-! ### Outcomes -/

/-- R68: every response word a step writes has bits 14:12 zero; a success has ERR 0, a failure DATA 0 and one of R141's ten causes;
only CHECKSUM and ENCODE respond with a DATA other than 0: CHECKSUM's is the checksum byte, ENCODE's is 220. -/
def Obligations.ResponseWords : Prop :=
  ∀ s t : State, s.st = .busy → step s = .next t → t.st = .idle →
    LegalResponse t.rsp ∧
    (rspFailed t.rsp = false → rspData t.rsp ≠ 0 →
      (∃ a b, decode s.cmd = .ok (.checksum a b)) ∨ decode s.cmd = .ok .encode) ∧
    (∀ a b, rspFailed t.rsp = false → decode s.cmd = .ok (.checksum a b) → rspData t.rsp = cksum s.frame a.toNat b.toNat) ∧
    (rspFailed t.rsp = false → decode s.cmd = .ok .encode → rspData t.rsp = 220)

/-- R147: an operation that ends Failed leaves FRAME, FRAME_VALID, PSEQ, PSEQ_LEN and PSEQ_VALID as they were, and TX_PHASE is OFF
if it was a SEND. -/
def Obligations.FailureKeepsTheData : Prop :=
  ∀ s t : State, s.st = .busy → step s = .next t → t.st = .idle → rspFailed t.rsp = true →
    t.frame = s.frame ∧ t.frameValid = s.frameValid ∧ t.pseq = s.pseq ∧ t.pseqLen = s.pseqLen ∧ t.pseqValid = s.pseqValid ∧
    (∀ l, decode s.cmd = .ok (.send l) → t.txPhase = .off)

/-- R149: a SEND that responds with FAILED = 0 has put every entry of the sequence on the line, and the line is released. -/
def Obligations.SentMeansEmitted : Prop :=
  ∀ (s t : State) (l : Byte), MachineInv s → s.st = .busy → decode s.cmd = .ok (.send l) → step s = .next t → t.st = .idle →
    rspFailed t.rsp = false →
    sentEvents s.pseq <:+ (lineAt t l).trace ∧ (lineAt t l).owned = false ∧ t.rsp = 0x0000

/-! ### Invariants -/

/-- The invariant holds right after reset. -/
def Obligations.ResetMeetsInvariant : Prop := MachineInv State.reset

/-- Every step keeps the invariant: from every state that meets it, for every HOST and every ENV. -/
def Obligations.StepKeepsInvariant : Prop :=
  ∀ s t : State, MachineInv s → step s = .next t → MachineInv t

/-- From a state that meets the invariant the machine never stops: a step answers a next state. -/
def Obligations.InvariantStateStepsOn : Prop :=
  ∀ s : State, MachineInv s → ∃ t, step s = .next t

/-! ### HOST's notation -/

/-- R71: the assembler gives an operand that fits its field the word of the encoder, and refuses every other. -/
def Obligations.AssemblerIsTheEncoder : Prop :=
  assemble .buildOff = some (encode .buildOff) ∧ assemble .encode = some (encode .encode) ∧
  (∀ (m : Nat) (t : Int), assemble (.buildOn m t) =
    if m ≤ 7 ∧ -128 ≤ t ∧ t ≤ 255 then some (encode (.buildOn (BitVec.ofNat 3 m) (BitVec.ofInt 8 t))) else none) ∧
  (∀ a b : Nat, assemble (.checksum a b) =
    if a ≤ 31 ∧ b ≤ 31 then some (encode (.checksum (BitVec.ofNat 5 a) (BitVec.ofNat 5 b))) else none) ∧
  (∀ l : Nat, assemble (.send l) = if l ≤ 255 then some (encode (.send (BitVec.ofNat 8 l))) else none)

/-- R72: the expansions of the pseudo-instructions and the request for a desired state. -/
def Obligations.PseudoInstructionsExpand : Prop :=
  (∀ l : Nat, expand (.xmitOff l) = [.buildOff, .encode, .send l]) ∧
  (∀ (m : Nat) (t : Int) (l : Nat), expand (.xmitOn m t l) = [.buildOn m t, .encode, .send l]) ∧
  (∀ (d : DesiredState) (l : Nat), d.power = true → requestFor d l = .xmitOn (selectorOf d.mode) d.targetTempCelsius l) ∧
  (∀ (d : DesiredState) (l : Nat), d.power = false → requestFor d l = .xmitOff l)
end

