-- ==== Sys2Proof/Laws/State.lean ====
section
/-! SUPPORT. The fields of State after each named update: one lemma per field per update, true by unfolding it. -/

namespace Sys2Proof.Machine

/-! ### respond -/

@[simp] theorem respond_cfg (w : HalfWord) (s : State) : (respond w s).cfg = s.cfg := rfl
@[simp] theorem respond_st (w : HalfWord) (s : State) : (respond w s).st = .idle := rfl
@[simp] theorem respond_cmd (w : HalfWord) (s : State) : (respond w s).cmd = s.cmd := rfl
@[simp] theorem respond_rsp (w : HalfWord) (s : State) : (respond w s).rsp = w := rfl
@[simp] theorem respond_rspValid (w : HalfWord) (s : State) : (respond w s).rspValid = true := rfl
@[simp] theorem respond_frame (w : HalfWord) (s : State) : (respond w s).frame = s.frame := rfl
@[simp] theorem respond_frameValid (w : HalfWord) (s : State) : (respond w s).frameValid = s.frameValid := rfl
@[simp] theorem respond_pseq (w : HalfWord) (s : State) : (respond w s).pseq = s.pseq := rfl
@[simp] theorem respond_pseqLen (w : HalfWord) (s : State) : (respond w s).pseqLen = s.pseqLen := rfl
@[simp] theorem respond_pseqValid (w : HalfWord) (s : State) : (respond w s).pseqValid = s.pseqValid := rfl
@[simp] theorem respond_txPhase (w : HalfWord) (s : State) : (respond w s).txPhase = s.txPhase := rfl
@[simp] theorem respond_txPtr (w : HalfWord) (s : State) : (respond w s).txPtr = s.txPtr := rfl
@[simp] theorem respond_txLen (w : HalfWord) (s : State) : (respond w s).txLen = s.txLen := rfl
@[simp] theorem respond_txLine (w : HalfWord) (s : State) : (respond w s).txLine = s.txLine := rfl
@[simp] theorem respond_txbuf (w : HalfWord) (s : State) : (respond w s).txbuf = s.txbuf := rfl
@[simp] theorem respond_lines (w : HalfWord) (s : State) : (respond w s).lines = s.lines := rfl
@[simp] theorem respond_env (w : HalfWord) (s : State) : (respond w s).env = s.env := rfl
@[simp] theorem respond_envPlan (w : HalfWord) (s : State) : (respond w s).envPlan = s.envPlan := rfl
@[simp] theorem respond_hostPlan (w : HalfWord) (s : State) : (respond w s).hostPlan = s.hostPlan := rfl
@[simp] theorem respond_resetCount (w : HalfWord) (s : State) : (respond w s).resetCount = s.resetCount := rfl
@[simp] theorem lineAt_respond (w : HalfWord) (s : State) (m : Byte) : lineAt (respond w s) m = lineAt s m := rfl
@[simp] theorem inputsAt_respond (w : HalfWord) (s : State) (m : Byte) : inputsAt (respond w s) m = inputsAt s m := rfl

/-! ### writeFrame -/

@[simp] theorem writeFrame_cfg (f : FrameFile) (s : State) : (writeFrame f s).cfg = s.cfg := rfl
@[simp] theorem writeFrame_st (f : FrameFile) (s : State) : (writeFrame f s).st = s.st := rfl
@[simp] theorem writeFrame_cmd (f : FrameFile) (s : State) : (writeFrame f s).cmd = s.cmd := rfl
@[simp] theorem writeFrame_rsp (f : FrameFile) (s : State) : (writeFrame f s).rsp = s.rsp := rfl
@[simp] theorem writeFrame_rspValid (f : FrameFile) (s : State) : (writeFrame f s).rspValid = s.rspValid := rfl
@[simp] theorem writeFrame_frame (f : FrameFile) (s : State) : (writeFrame f s).frame = f := rfl
@[simp] theorem writeFrame_frameValid (f : FrameFile) (s : State) : (writeFrame f s).frameValid = s.frameValid := rfl
@[simp] theorem writeFrame_pseq (f : FrameFile) (s : State) : (writeFrame f s).pseq = s.pseq := rfl
@[simp] theorem writeFrame_pseqLen (f : FrameFile) (s : State) : (writeFrame f s).pseqLen = s.pseqLen := rfl
@[simp] theorem writeFrame_pseqValid (f : FrameFile) (s : State) : (writeFrame f s).pseqValid = s.pseqValid := rfl
@[simp] theorem writeFrame_txPhase (f : FrameFile) (s : State) : (writeFrame f s).txPhase = s.txPhase := rfl
@[simp] theorem writeFrame_txPtr (f : FrameFile) (s : State) : (writeFrame f s).txPtr = s.txPtr := rfl
@[simp] theorem writeFrame_txLen (f : FrameFile) (s : State) : (writeFrame f s).txLen = s.txLen := rfl
@[simp] theorem writeFrame_txLine (f : FrameFile) (s : State) : (writeFrame f s).txLine = s.txLine := rfl
@[simp] theorem writeFrame_txbuf (f : FrameFile) (s : State) : (writeFrame f s).txbuf = s.txbuf := rfl
@[simp] theorem writeFrame_lines (f : FrameFile) (s : State) : (writeFrame f s).lines = s.lines := rfl
@[simp] theorem writeFrame_env (f : FrameFile) (s : State) : (writeFrame f s).env = s.env := rfl
@[simp] theorem writeFrame_envPlan (f : FrameFile) (s : State) : (writeFrame f s).envPlan = s.envPlan := rfl
@[simp] theorem writeFrame_hostPlan (f : FrameFile) (s : State) : (writeFrame f s).hostPlan = s.hostPlan := rfl
@[simp] theorem writeFrame_resetCount (f : FrameFile) (s : State) : (writeFrame f s).resetCount = s.resetCount := rfl
@[simp] theorem lineAt_writeFrame (f : FrameFile) (s : State) (m : Byte) : lineAt (writeFrame f s) m = lineAt s m := rfl
@[simp] theorem inputsAt_writeFrame (f : FrameFile) (s : State) (m : Byte) : inputsAt (writeFrame f s) m = inputsAt s m := rfl

/-! ### writeSequence -/

@[simp] theorem writeSequence_cfg (es : List Entry) (s : State) : (writeSequence es s).cfg = s.cfg := rfl
@[simp] theorem writeSequence_st (es : List Entry) (s : State) : (writeSequence es s).st = s.st := rfl
@[simp] theorem writeSequence_cmd (es : List Entry) (s : State) : (writeSequence es s).cmd = s.cmd := rfl
@[simp] theorem writeSequence_rsp (es : List Entry) (s : State) : (writeSequence es s).rsp = s.rsp := rfl
@[simp] theorem writeSequence_rspValid (es : List Entry) (s : State) : (writeSequence es s).rspValid = s.rspValid := rfl
@[simp] theorem writeSequence_frame (es : List Entry) (s : State) : (writeSequence es s).frame = s.frame := rfl
@[simp] theorem writeSequence_frameValid (es : List Entry) (s : State) : (writeSequence es s).frameValid = s.frameValid := rfl
@[simp] theorem writeSequence_pseq (es : List Entry) (s : State) : (writeSequence es s).pseq = overlay s.pseq es := rfl
@[simp] theorem writeSequence_pseqLen (es : List Entry) (s : State) : (writeSequence es s).pseqLen = BitVec.ofNat 8 es.length := rfl
@[simp] theorem writeSequence_pseqValid (es : List Entry) (s : State) : (writeSequence es s).pseqValid = s.pseqValid := rfl
@[simp] theorem writeSequence_txPhase (es : List Entry) (s : State) : (writeSequence es s).txPhase = s.txPhase := rfl
@[simp] theorem writeSequence_txPtr (es : List Entry) (s : State) : (writeSequence es s).txPtr = s.txPtr := rfl
@[simp] theorem writeSequence_txLen (es : List Entry) (s : State) : (writeSequence es s).txLen = s.txLen := rfl
@[simp] theorem writeSequence_txLine (es : List Entry) (s : State) : (writeSequence es s).txLine = s.txLine := rfl
@[simp] theorem writeSequence_txbuf (es : List Entry) (s : State) : (writeSequence es s).txbuf = s.txbuf := rfl
@[simp] theorem writeSequence_lines (es : List Entry) (s : State) : (writeSequence es s).lines = s.lines := rfl
@[simp] theorem writeSequence_env (es : List Entry) (s : State) : (writeSequence es s).env = s.env := rfl
@[simp] theorem writeSequence_envPlan (es : List Entry) (s : State) : (writeSequence es s).envPlan = s.envPlan := rfl
@[simp] theorem writeSequence_hostPlan (es : List Entry) (s : State) : (writeSequence es s).hostPlan = s.hostPlan := rfl
@[simp] theorem writeSequence_resetCount (es : List Entry) (s : State) : (writeSequence es s).resetCount = s.resetCount := rfl
@[simp] theorem lineAt_writeSequence (es : List Entry) (s : State) (m : Byte) : lineAt (writeSequence es s) m = lineAt s m := rfl
@[simp] theorem inputsAt_writeSequence (es : List Entry) (s : State) (m : Byte) : inputsAt (writeSequence es s) m = inputsAt s m := rfl

/-! ### setPhase -/

@[simp] theorem setPhase_cfg (p : TxPhase) (s : State) : (setPhase p s).cfg = s.cfg := rfl
@[simp] theorem setPhase_st (p : TxPhase) (s : State) : (setPhase p s).st = s.st := rfl
@[simp] theorem setPhase_cmd (p : TxPhase) (s : State) : (setPhase p s).cmd = s.cmd := rfl
@[simp] theorem setPhase_rsp (p : TxPhase) (s : State) : (setPhase p s).rsp = s.rsp := rfl
@[simp] theorem setPhase_rspValid (p : TxPhase) (s : State) : (setPhase p s).rspValid = s.rspValid := rfl
@[simp] theorem setPhase_frame (p : TxPhase) (s : State) : (setPhase p s).frame = s.frame := rfl
@[simp] theorem setPhase_frameValid (p : TxPhase) (s : State) : (setPhase p s).frameValid = s.frameValid := rfl
@[simp] theorem setPhase_pseq (p : TxPhase) (s : State) : (setPhase p s).pseq = s.pseq := rfl
@[simp] theorem setPhase_pseqLen (p : TxPhase) (s : State) : (setPhase p s).pseqLen = s.pseqLen := rfl
@[simp] theorem setPhase_pseqValid (p : TxPhase) (s : State) : (setPhase p s).pseqValid = s.pseqValid := rfl
@[simp] theorem setPhase_txPhase (p : TxPhase) (s : State) : (setPhase p s).txPhase = p := rfl
@[simp] theorem setPhase_txPtr (p : TxPhase) (s : State) : (setPhase p s).txPtr = s.txPtr := rfl
@[simp] theorem setPhase_txLen (p : TxPhase) (s : State) : (setPhase p s).txLen = s.txLen := rfl
@[simp] theorem setPhase_txLine (p : TxPhase) (s : State) : (setPhase p s).txLine = s.txLine := rfl
@[simp] theorem setPhase_txbuf (p : TxPhase) (s : State) : (setPhase p s).txbuf = s.txbuf := rfl
@[simp] theorem setPhase_lines (p : TxPhase) (s : State) : (setPhase p s).lines = s.lines := rfl
@[simp] theorem setPhase_env (p : TxPhase) (s : State) : (setPhase p s).env = s.env := rfl
@[simp] theorem setPhase_envPlan (p : TxPhase) (s : State) : (setPhase p s).envPlan = s.envPlan := rfl
@[simp] theorem setPhase_hostPlan (p : TxPhase) (s : State) : (setPhase p s).hostPlan = s.hostPlan := rfl
@[simp] theorem setPhase_resetCount (p : TxPhase) (s : State) : (setPhase p s).resetCount = s.resetCount := rfl
@[simp] theorem lineAt_setPhase (p : TxPhase) (s : State) (m : Byte) : lineAt (setPhase p s) m = lineAt s m := rfl
@[simp] theorem inputsAt_setPhase (p : TxPhase) (s : State) (m : Byte) : inputsAt (setPhase p s) m = inputsAt s m := rfl

/-! ### setTxLine -/

@[simp] theorem setTxLine_cfg (l : Byte) (s : State) : (setTxLine l s).cfg = s.cfg := rfl
@[simp] theorem setTxLine_st (l : Byte) (s : State) : (setTxLine l s).st = s.st := rfl
@[simp] theorem setTxLine_cmd (l : Byte) (s : State) : (setTxLine l s).cmd = s.cmd := rfl
@[simp] theorem setTxLine_rsp (l : Byte) (s : State) : (setTxLine l s).rsp = s.rsp := rfl
@[simp] theorem setTxLine_rspValid (l : Byte) (s : State) : (setTxLine l s).rspValid = s.rspValid := rfl
@[simp] theorem setTxLine_frame (l : Byte) (s : State) : (setTxLine l s).frame = s.frame := rfl
@[simp] theorem setTxLine_frameValid (l : Byte) (s : State) : (setTxLine l s).frameValid = s.frameValid := rfl
@[simp] theorem setTxLine_pseq (l : Byte) (s : State) : (setTxLine l s).pseq = s.pseq := rfl
@[simp] theorem setTxLine_pseqLen (l : Byte) (s : State) : (setTxLine l s).pseqLen = s.pseqLen := rfl
@[simp] theorem setTxLine_pseqValid (l : Byte) (s : State) : (setTxLine l s).pseqValid = s.pseqValid := rfl
@[simp] theorem setTxLine_txPhase (l : Byte) (s : State) : (setTxLine l s).txPhase = s.txPhase := rfl
@[simp] theorem setTxLine_txPtr (l : Byte) (s : State) : (setTxLine l s).txPtr = s.txPtr := rfl
@[simp] theorem setTxLine_txLen (l : Byte) (s : State) : (setTxLine l s).txLen = s.txLen := rfl
@[simp] theorem setTxLine_txLine (l : Byte) (s : State) : (setTxLine l s).txLine = l := rfl
@[simp] theorem setTxLine_txbuf (l : Byte) (s : State) : (setTxLine l s).txbuf = s.txbuf := rfl
@[simp] theorem setTxLine_lines (l : Byte) (s : State) : (setTxLine l s).lines = s.lines := rfl
@[simp] theorem setTxLine_env (l : Byte) (s : State) : (setTxLine l s).env = s.env := rfl
@[simp] theorem setTxLine_envPlan (l : Byte) (s : State) : (setTxLine l s).envPlan = s.envPlan := rfl
@[simp] theorem setTxLine_hostPlan (l : Byte) (s : State) : (setTxLine l s).hostPlan = s.hostPlan := rfl
@[simp] theorem setTxLine_resetCount (l : Byte) (s : State) : (setTxLine l s).resetCount = s.resetCount := rfl
@[simp] theorem lineAt_setTxLine (l : Byte) (s : State) (m : Byte) : lineAt (setTxLine l s) m = lineAt s m := rfl
@[simp] theorem inputsAt_setTxLine (l : Byte) (s : State) (m : Byte) : inputsAt (setTxLine l s) m = inputsAt s m := rfl

/-! ### setTxPtr -/

@[simp] theorem setTxPtr_cfg (k : BitVec 8) (s : State) : (setTxPtr k s).cfg = s.cfg := rfl
@[simp] theorem setTxPtr_st (k : BitVec 8) (s : State) : (setTxPtr k s).st = s.st := rfl
@[simp] theorem setTxPtr_cmd (k : BitVec 8) (s : State) : (setTxPtr k s).cmd = s.cmd := rfl
@[simp] theorem setTxPtr_rsp (k : BitVec 8) (s : State) : (setTxPtr k s).rsp = s.rsp := rfl
@[simp] theorem setTxPtr_rspValid (k : BitVec 8) (s : State) : (setTxPtr k s).rspValid = s.rspValid := rfl
@[simp] theorem setTxPtr_frame (k : BitVec 8) (s : State) : (setTxPtr k s).frame = s.frame := rfl
@[simp] theorem setTxPtr_frameValid (k : BitVec 8) (s : State) : (setTxPtr k s).frameValid = s.frameValid := rfl
@[simp] theorem setTxPtr_pseq (k : BitVec 8) (s : State) : (setTxPtr k s).pseq = s.pseq := rfl
@[simp] theorem setTxPtr_pseqLen (k : BitVec 8) (s : State) : (setTxPtr k s).pseqLen = s.pseqLen := rfl
@[simp] theorem setTxPtr_pseqValid (k : BitVec 8) (s : State) : (setTxPtr k s).pseqValid = s.pseqValid := rfl
@[simp] theorem setTxPtr_txPhase (k : BitVec 8) (s : State) : (setTxPtr k s).txPhase = s.txPhase := rfl
@[simp] theorem setTxPtr_txPtr (k : BitVec 8) (s : State) : (setTxPtr k s).txPtr = k := rfl
@[simp] theorem setTxPtr_txLen (k : BitVec 8) (s : State) : (setTxPtr k s).txLen = s.txLen := rfl
@[simp] theorem setTxPtr_txLine (k : BitVec 8) (s : State) : (setTxPtr k s).txLine = s.txLine := rfl
@[simp] theorem setTxPtr_txbuf (k : BitVec 8) (s : State) : (setTxPtr k s).txbuf = s.txbuf := rfl
@[simp] theorem setTxPtr_lines (k : BitVec 8) (s : State) : (setTxPtr k s).lines = s.lines := rfl
@[simp] theorem setTxPtr_env (k : BitVec 8) (s : State) : (setTxPtr k s).env = s.env := rfl
@[simp] theorem setTxPtr_envPlan (k : BitVec 8) (s : State) : (setTxPtr k s).envPlan = s.envPlan := rfl
@[simp] theorem setTxPtr_hostPlan (k : BitVec 8) (s : State) : (setTxPtr k s).hostPlan = s.hostPlan := rfl
@[simp] theorem setTxPtr_resetCount (k : BitVec 8) (s : State) : (setTxPtr k s).resetCount = s.resetCount := rfl
@[simp] theorem lineAt_setTxPtr (k : BitVec 8) (s : State) (m : Byte) : lineAt (setTxPtr k s) m = lineAt s m := rfl
@[simp] theorem inputsAt_setTxPtr (k : BitVec 8) (s : State) (m : Byte) : inputsAt (setTxPtr k s) m = inputsAt s m := rfl

/-! ### loadTxbuf -/

@[simp] theorem loadTxbuf_cfg (s : State) : (loadTxbuf s).cfg = s.cfg := rfl
@[simp] theorem loadTxbuf_st (s : State) : (loadTxbuf s).st = s.st := rfl
@[simp] theorem loadTxbuf_cmd (s : State) : (loadTxbuf s).cmd = s.cmd := rfl
@[simp] theorem loadTxbuf_rsp (s : State) : (loadTxbuf s).rsp = s.rsp := rfl
@[simp] theorem loadTxbuf_rspValid (s : State) : (loadTxbuf s).rspValid = s.rspValid := rfl
@[simp] theorem loadTxbuf_frame (s : State) : (loadTxbuf s).frame = s.frame := rfl
@[simp] theorem loadTxbuf_frameValid (s : State) : (loadTxbuf s).frameValid = s.frameValid := rfl
@[simp] theorem loadTxbuf_pseq (s : State) : (loadTxbuf s).pseq = s.pseq := rfl
@[simp] theorem loadTxbuf_pseqLen (s : State) : (loadTxbuf s).pseqLen = s.pseqLen := rfl
@[simp] theorem loadTxbuf_pseqValid (s : State) : (loadTxbuf s).pseqValid = s.pseqValid := rfl
@[simp] theorem loadTxbuf_txPhase (s : State) : (loadTxbuf s).txPhase = s.txPhase := rfl
@[simp] theorem loadTxbuf_txPtr (s : State) : (loadTxbuf s).txPtr = 0 := rfl
@[simp] theorem loadTxbuf_txLen (s : State) : (loadTxbuf s).txLen = s.pseqLen := rfl
@[simp] theorem loadTxbuf_txLine (s : State) : (loadTxbuf s).txLine = s.txLine := rfl
@[simp] theorem loadTxbuf_txbuf (s : State) : (loadTxbuf s).txbuf = overlay s.txbuf (s.pseq.toList.take s.pseqLen.toNat) := rfl
@[simp] theorem loadTxbuf_lines (s : State) : (loadTxbuf s).lines = s.lines := rfl
@[simp] theorem loadTxbuf_env (s : State) : (loadTxbuf s).env = s.env := rfl
@[simp] theorem loadTxbuf_envPlan (s : State) : (loadTxbuf s).envPlan = s.envPlan := rfl
@[simp] theorem loadTxbuf_hostPlan (s : State) : (loadTxbuf s).hostPlan = s.hostPlan := rfl
@[simp] theorem loadTxbuf_resetCount (s : State) : (loadTxbuf s).resetCount = s.resetCount := rfl
@[simp] theorem lineAt_loadTxbuf (s : State) (m : Byte) : lineAt (loadTxbuf s) m = lineAt s m := rfl
@[simp] theorem inputsAt_loadTxbuf (s : State) (m : Byte) : inputsAt (loadTxbuf s) m = inputsAt s m := rfl

/-! ### setLine -/

@[simp] theorem setLine_cfg (l : Byte) (x : Line) (s : State) : (setLine l x s).cfg = s.cfg := rfl
@[simp] theorem setLine_st (l : Byte) (x : Line) (s : State) : (setLine l x s).st = s.st := rfl
@[simp] theorem setLine_cmd (l : Byte) (x : Line) (s : State) : (setLine l x s).cmd = s.cmd := rfl
@[simp] theorem setLine_rsp (l : Byte) (x : Line) (s : State) : (setLine l x s).rsp = s.rsp := rfl
@[simp] theorem setLine_rspValid (l : Byte) (x : Line) (s : State) : (setLine l x s).rspValid = s.rspValid := rfl
@[simp] theorem setLine_frame (l : Byte) (x : Line) (s : State) : (setLine l x s).frame = s.frame := rfl
@[simp] theorem setLine_frameValid (l : Byte) (x : Line) (s : State) : (setLine l x s).frameValid = s.frameValid := rfl
@[simp] theorem setLine_pseq (l : Byte) (x : Line) (s : State) : (setLine l x s).pseq = s.pseq := rfl
@[simp] theorem setLine_pseqLen (l : Byte) (x : Line) (s : State) : (setLine l x s).pseqLen = s.pseqLen := rfl
@[simp] theorem setLine_pseqValid (l : Byte) (x : Line) (s : State) : (setLine l x s).pseqValid = s.pseqValid := rfl
@[simp] theorem setLine_txPhase (l : Byte) (x : Line) (s : State) : (setLine l x s).txPhase = s.txPhase := rfl
@[simp] theorem setLine_txPtr (l : Byte) (x : Line) (s : State) : (setLine l x s).txPtr = s.txPtr := rfl
@[simp] theorem setLine_txLen (l : Byte) (x : Line) (s : State) : (setLine l x s).txLen = s.txLen := rfl
@[simp] theorem setLine_txLine (l : Byte) (x : Line) (s : State) : (setLine l x s).txLine = s.txLine := rfl
@[simp] theorem setLine_txbuf (l : Byte) (x : Line) (s : State) : (setLine l x s).txbuf = s.txbuf := rfl
@[simp] theorem setLine_lines (l : Byte) (x : Line) (s : State) : (setLine l x s).lines = s.lines.set l.toNat x (line_lt l) := rfl
@[simp] theorem setLine_env (l : Byte) (x : Line) (s : State) : (setLine l x s).env = s.env := rfl
@[simp] theorem setLine_envPlan (l : Byte) (x : Line) (s : State) : (setLine l x s).envPlan = s.envPlan := rfl
@[simp] theorem setLine_hostPlan (l : Byte) (x : Line) (s : State) : (setLine l x s).hostPlan = s.hostPlan := rfl
@[simp] theorem setLine_resetCount (l : Byte) (x : Line) (s : State) : (setLine l x s).resetCount = s.resetCount := rfl
@[simp] theorem inputsAt_setLine (l : Byte) (x : Line) (s : State) (m : Byte) : inputsAt (setLine l x s) m = inputsAt s m := rfl

/-! ### accept -/

@[simp] theorem accept_cfg (w : HalfWord) (s : State) : (accept w s).cfg = s.cfg := rfl
@[simp] theorem accept_st (w : HalfWord) (s : State) : (accept w s).st = .busy := rfl
@[simp] theorem accept_cmd (w : HalfWord) (s : State) : (accept w s).cmd = w := rfl
@[simp] theorem accept_rsp (w : HalfWord) (s : State) : (accept w s).rsp = s.rsp := rfl
@[simp] theorem accept_rspValid (w : HalfWord) (s : State) : (accept w s).rspValid = false := rfl
@[simp] theorem accept_frame (w : HalfWord) (s : State) : (accept w s).frame = s.frame := rfl
@[simp] theorem accept_frameValid (w : HalfWord) (s : State) : (accept w s).frameValid = s.frameValid := rfl
@[simp] theorem accept_pseq (w : HalfWord) (s : State) : (accept w s).pseq = s.pseq := rfl
@[simp] theorem accept_pseqLen (w : HalfWord) (s : State) : (accept w s).pseqLen = s.pseqLen := rfl
@[simp] theorem accept_pseqValid (w : HalfWord) (s : State) : (accept w s).pseqValid = s.pseqValid := rfl
@[simp] theorem accept_txPhase (w : HalfWord) (s : State) : (accept w s).txPhase = s.txPhase := rfl
@[simp] theorem accept_txPtr (w : HalfWord) (s : State) : (accept w s).txPtr = s.txPtr := rfl
@[simp] theorem accept_txLen (w : HalfWord) (s : State) : (accept w s).txLen = s.txLen := rfl
@[simp] theorem accept_txLine (w : HalfWord) (s : State) : (accept w s).txLine = s.txLine := rfl
@[simp] theorem accept_txbuf (w : HalfWord) (s : State) : (accept w s).txbuf = s.txbuf := rfl
@[simp] theorem accept_lines (w : HalfWord) (s : State) : (accept w s).lines = s.lines := rfl
@[simp] theorem accept_env (w : HalfWord) (s : State) : (accept w s).env = s.env := rfl
@[simp] theorem accept_envPlan (w : HalfWord) (s : State) : (accept w s).envPlan = s.envPlan := rfl
@[simp] theorem accept_hostPlan (w : HalfWord) (s : State) : (accept w s).hostPlan = s.hostPlan := rfl
@[simp] theorem accept_resetCount (w : HalfWord) (s : State) : (accept w s).resetCount = s.resetCount := rfl
@[simp] theorem lineAt_accept (w : HalfWord) (s : State) (m : Byte) : lineAt (accept w s) m = lineAt s m := rfl
@[simp] theorem inputsAt_accept (w : HalfWord) (s : State) (m : Byte) : inputsAt (accept w s) m = inputsAt s m := rfl

/-! ### setHostPlan -/

@[simp] theorem setHostPlan_cfg (q : List HostMove) (s : State) : (setHostPlan q s).cfg = s.cfg := rfl
@[simp] theorem setHostPlan_st (q : List HostMove) (s : State) : (setHostPlan q s).st = s.st := rfl
@[simp] theorem setHostPlan_cmd (q : List HostMove) (s : State) : (setHostPlan q s).cmd = s.cmd := rfl
@[simp] theorem setHostPlan_rsp (q : List HostMove) (s : State) : (setHostPlan q s).rsp = s.rsp := rfl
@[simp] theorem setHostPlan_rspValid (q : List HostMove) (s : State) : (setHostPlan q s).rspValid = s.rspValid := rfl
@[simp] theorem setHostPlan_frame (q : List HostMove) (s : State) : (setHostPlan q s).frame = s.frame := rfl
@[simp] theorem setHostPlan_frameValid (q : List HostMove) (s : State) : (setHostPlan q s).frameValid = s.frameValid := rfl
@[simp] theorem setHostPlan_pseq (q : List HostMove) (s : State) : (setHostPlan q s).pseq = s.pseq := rfl
@[simp] theorem setHostPlan_pseqLen (q : List HostMove) (s : State) : (setHostPlan q s).pseqLen = s.pseqLen := rfl
@[simp] theorem setHostPlan_pseqValid (q : List HostMove) (s : State) : (setHostPlan q s).pseqValid = s.pseqValid := rfl
@[simp] theorem setHostPlan_txPhase (q : List HostMove) (s : State) : (setHostPlan q s).txPhase = s.txPhase := rfl
@[simp] theorem setHostPlan_txPtr (q : List HostMove) (s : State) : (setHostPlan q s).txPtr = s.txPtr := rfl
@[simp] theorem setHostPlan_txLen (q : List HostMove) (s : State) : (setHostPlan q s).txLen = s.txLen := rfl
@[simp] theorem setHostPlan_txLine (q : List HostMove) (s : State) : (setHostPlan q s).txLine = s.txLine := rfl
@[simp] theorem setHostPlan_txbuf (q : List HostMove) (s : State) : (setHostPlan q s).txbuf = s.txbuf := rfl
@[simp] theorem setHostPlan_lines (q : List HostMove) (s : State) : (setHostPlan q s).lines = s.lines := rfl
@[simp] theorem setHostPlan_env (q : List HostMove) (s : State) : (setHostPlan q s).env = s.env := rfl
@[simp] theorem setHostPlan_envPlan (q : List HostMove) (s : State) : (setHostPlan q s).envPlan = s.envPlan := rfl
@[simp] theorem setHostPlan_hostPlan (q : List HostMove) (s : State) : (setHostPlan q s).hostPlan = q := rfl
@[simp] theorem setHostPlan_resetCount (q : List HostMove) (s : State) : (setHostPlan q s).resetCount = s.resetCount := rfl
@[simp] theorem lineAt_setHostPlan (q : List HostMove) (s : State) (m : Byte) : lineAt (setHostPlan q s) m = lineAt s m := rfl
@[simp] theorem inputsAt_setHostPlan (q : List HostMove) (s : State) (m : Byte) : inputsAt (setHostPlan q s) m = inputsAt s m := rfl

/-! ### frameBuilt -/

@[simp] theorem frameBuilt_cfg (s : State) : (frameBuilt s).cfg = s.cfg := rfl
@[simp] theorem frameBuilt_st (s : State) : (frameBuilt s).st = s.st := rfl
@[simp] theorem frameBuilt_cmd (s : State) : (frameBuilt s).cmd = s.cmd := rfl
@[simp] theorem frameBuilt_rsp (s : State) : (frameBuilt s).rsp = s.rsp := rfl
@[simp] theorem frameBuilt_rspValid (s : State) : (frameBuilt s).rspValid = s.rspValid := rfl
@[simp] theorem frameBuilt_frame (s : State) : (frameBuilt s).frame = s.frame := rfl
@[simp] theorem frameBuilt_frameValid (s : State) : (frameBuilt s).frameValid = true := rfl
@[simp] theorem frameBuilt_pseq (s : State) : (frameBuilt s).pseq = s.pseq := rfl
@[simp] theorem frameBuilt_pseqLen (s : State) : (frameBuilt s).pseqLen = s.pseqLen := rfl
@[simp] theorem frameBuilt_pseqValid (s : State) : (frameBuilt s).pseqValid = false := rfl
@[simp] theorem frameBuilt_txPhase (s : State) : (frameBuilt s).txPhase = s.txPhase := rfl
@[simp] theorem frameBuilt_txPtr (s : State) : (frameBuilt s).txPtr = s.txPtr := rfl
@[simp] theorem frameBuilt_txLen (s : State) : (frameBuilt s).txLen = s.txLen := rfl
@[simp] theorem frameBuilt_txLine (s : State) : (frameBuilt s).txLine = s.txLine := rfl
@[simp] theorem frameBuilt_txbuf (s : State) : (frameBuilt s).txbuf = s.txbuf := rfl
@[simp] theorem frameBuilt_lines (s : State) : (frameBuilt s).lines = s.lines := rfl
@[simp] theorem frameBuilt_env (s : State) : (frameBuilt s).env = s.env := rfl
@[simp] theorem frameBuilt_envPlan (s : State) : (frameBuilt s).envPlan = s.envPlan := rfl
@[simp] theorem frameBuilt_hostPlan (s : State) : (frameBuilt s).hostPlan = s.hostPlan := rfl
@[simp] theorem frameBuilt_resetCount (s : State) : (frameBuilt s).resetCount = s.resetCount := rfl
@[simp] theorem lineAt_frameBuilt (s : State) (m : Byte) : lineAt (frameBuilt s) m = lineAt s m := rfl
@[simp] theorem inputsAt_frameBuilt (s : State) (m : Byte) : inputsAt (frameBuilt s) m = inputsAt s m := rfl

/-! ### sequenceBuilt -/

@[simp] theorem sequenceBuilt_cfg (s : State) : (sequenceBuilt s).cfg = s.cfg := rfl
@[simp] theorem sequenceBuilt_st (s : State) : (sequenceBuilt s).st = s.st := rfl
@[simp] theorem sequenceBuilt_cmd (s : State) : (sequenceBuilt s).cmd = s.cmd := rfl
@[simp] theorem sequenceBuilt_rsp (s : State) : (sequenceBuilt s).rsp = s.rsp := rfl
@[simp] theorem sequenceBuilt_rspValid (s : State) : (sequenceBuilt s).rspValid = s.rspValid := rfl
@[simp] theorem sequenceBuilt_frame (s : State) : (sequenceBuilt s).frame = s.frame := rfl
@[simp] theorem sequenceBuilt_frameValid (s : State) : (sequenceBuilt s).frameValid = s.frameValid := rfl
@[simp] theorem sequenceBuilt_pseq (s : State) : (sequenceBuilt s).pseq = s.pseq := rfl
@[simp] theorem sequenceBuilt_pseqLen (s : State) : (sequenceBuilt s).pseqLen = s.pseqLen := rfl
@[simp] theorem sequenceBuilt_pseqValid (s : State) : (sequenceBuilt s).pseqValid = true := rfl
@[simp] theorem sequenceBuilt_txPhase (s : State) : (sequenceBuilt s).txPhase = s.txPhase := rfl
@[simp] theorem sequenceBuilt_txPtr (s : State) : (sequenceBuilt s).txPtr = s.txPtr := rfl
@[simp] theorem sequenceBuilt_txLen (s : State) : (sequenceBuilt s).txLen = s.txLen := rfl
@[simp] theorem sequenceBuilt_txLine (s : State) : (sequenceBuilt s).txLine = s.txLine := rfl
@[simp] theorem sequenceBuilt_txbuf (s : State) : (sequenceBuilt s).txbuf = s.txbuf := rfl
@[simp] theorem sequenceBuilt_lines (s : State) : (sequenceBuilt s).lines = s.lines := rfl
@[simp] theorem sequenceBuilt_env (s : State) : (sequenceBuilt s).env = s.env := rfl
@[simp] theorem sequenceBuilt_envPlan (s : State) : (sequenceBuilt s).envPlan = s.envPlan := rfl
@[simp] theorem sequenceBuilt_hostPlan (s : State) : (sequenceBuilt s).hostPlan = s.hostPlan := rfl
@[simp] theorem sequenceBuilt_resetCount (s : State) : (sequenceBuilt s).resetCount = s.resetCount := rfl
@[simp] theorem lineAt_sequenceBuilt (s : State) (m : Byte) : lineAt (sequenceBuilt s) m = lineAt s m := rfl
@[simp] theorem inputsAt_sequenceBuilt (s : State) (m : Byte) : inputsAt (sequenceBuilt s) m = inputsAt s m := rfl

/-! ### requestDiscarded -/

@[simp] theorem requestDiscarded_cfg (s : State) : (requestDiscarded s).cfg = s.cfg := rfl
@[simp] theorem requestDiscarded_st (s : State) : (requestDiscarded s).st = s.st := rfl
@[simp] theorem requestDiscarded_cmd (s : State) : (requestDiscarded s).cmd = s.cmd := rfl
@[simp] theorem requestDiscarded_rsp (s : State) : (requestDiscarded s).rsp = s.rsp := rfl
@[simp] theorem requestDiscarded_rspValid (s : State) : (requestDiscarded s).rspValid = s.rspValid := rfl
@[simp] theorem requestDiscarded_frame (s : State) : (requestDiscarded s).frame = s.frame := rfl
@[simp] theorem requestDiscarded_frameValid (s : State) : (requestDiscarded s).frameValid = false := rfl
@[simp] theorem requestDiscarded_pseq (s : State) : (requestDiscarded s).pseq = s.pseq := rfl
@[simp] theorem requestDiscarded_pseqLen (s : State) : (requestDiscarded s).pseqLen = s.pseqLen := rfl
@[simp] theorem requestDiscarded_pseqValid (s : State) : (requestDiscarded s).pseqValid = false := rfl
@[simp] theorem requestDiscarded_txPhase (s : State) : (requestDiscarded s).txPhase = s.txPhase := rfl
@[simp] theorem requestDiscarded_txPtr (s : State) : (requestDiscarded s).txPtr = s.txPtr := rfl
@[simp] theorem requestDiscarded_txLen (s : State) : (requestDiscarded s).txLen = s.txLen := rfl
@[simp] theorem requestDiscarded_txLine (s : State) : (requestDiscarded s).txLine = s.txLine := rfl
@[simp] theorem requestDiscarded_txbuf (s : State) : (requestDiscarded s).txbuf = s.txbuf := rfl
@[simp] theorem requestDiscarded_lines (s : State) : (requestDiscarded s).lines = s.lines := rfl
@[simp] theorem requestDiscarded_env (s : State) : (requestDiscarded s).env = s.env := rfl
@[simp] theorem requestDiscarded_envPlan (s : State) : (requestDiscarded s).envPlan = s.envPlan := rfl
@[simp] theorem requestDiscarded_hostPlan (s : State) : (requestDiscarded s).hostPlan = s.hostPlan := rfl
@[simp] theorem requestDiscarded_resetCount (s : State) : (requestDiscarded s).resetCount = s.resetCount := rfl
@[simp] theorem lineAt_requestDiscarded (s : State) (m : Byte) : lineAt (requestDiscarded s) m = lineAt s m := rfl
@[simp] theorem inputsAt_requestDiscarded (s : State) (m : Byte) : inputsAt (requestDiscarded s) m = inputsAt s m := rfl

/-! ### advanceEnv moves ENV's inputs and nothing else -/

@[simp] theorem advanceEnv_cfg (s : State) : (advanceEnv s).cfg = s.cfg := by unfold advanceEnv; split <;> rfl
@[simp] theorem advanceEnv_st (s : State) : (advanceEnv s).st = s.st := by unfold advanceEnv; split <;> rfl
@[simp] theorem advanceEnv_cmd (s : State) : (advanceEnv s).cmd = s.cmd := by unfold advanceEnv; split <;> rfl
@[simp] theorem advanceEnv_rsp (s : State) : (advanceEnv s).rsp = s.rsp := by unfold advanceEnv; split <;> rfl
@[simp] theorem advanceEnv_rspValid (s : State) : (advanceEnv s).rspValid = s.rspValid := by unfold advanceEnv; split <;> rfl
@[simp] theorem advanceEnv_frame (s : State) : (advanceEnv s).frame = s.frame := by unfold advanceEnv; split <;> rfl
@[simp] theorem advanceEnv_frameValid (s : State) : (advanceEnv s).frameValid = s.frameValid := by unfold advanceEnv; split <;> rfl
@[simp] theorem advanceEnv_pseq (s : State) : (advanceEnv s).pseq = s.pseq := by unfold advanceEnv; split <;> rfl
@[simp] theorem advanceEnv_pseqLen (s : State) : (advanceEnv s).pseqLen = s.pseqLen := by unfold advanceEnv; split <;> rfl
@[simp] theorem advanceEnv_pseqValid (s : State) : (advanceEnv s).pseqValid = s.pseqValid := by unfold advanceEnv; split <;> rfl
@[simp] theorem advanceEnv_txPhase (s : State) : (advanceEnv s).txPhase = s.txPhase := by unfold advanceEnv; split <;> rfl
@[simp] theorem advanceEnv_txPtr (s : State) : (advanceEnv s).txPtr = s.txPtr := by unfold advanceEnv; split <;> rfl
@[simp] theorem advanceEnv_txLen (s : State) : (advanceEnv s).txLen = s.txLen := by unfold advanceEnv; split <;> rfl
@[simp] theorem advanceEnv_txLine (s : State) : (advanceEnv s).txLine = s.txLine := by unfold advanceEnv; split <;> rfl
@[simp] theorem advanceEnv_txbuf (s : State) : (advanceEnv s).txbuf = s.txbuf := by unfold advanceEnv; split <;> rfl
@[simp] theorem advanceEnv_lines (s : State) : (advanceEnv s).lines = s.lines := by unfold advanceEnv; split <;> rfl
@[simp] theorem advanceEnv_hostPlan (s : State) : (advanceEnv s).hostPlan = s.hostPlan := by unfold advanceEnv; split <;> rfl
@[simp] theorem advanceEnv_resetCount (s : State) : (advanceEnv s).resetCount = s.resetCount := by unfold advanceEnv; split <;> rfl
@[simp] theorem lineAt_advanceEnv (s : State) (m : Byte) : lineAt (advanceEnv s) m = lineAt s m := by simp [lineAt]

/-! ### The reset table, field by field (R36) -/

@[simp] theorem resetTo_cfg (c : Config) (n : Nat) (e : EnvInputs) (es : List EnvInputs) (q : List HostMove) :
    (State.resetTo c n e es q).cfg = c := rfl
@[simp] theorem resetTo_st (c : Config) (n : Nat) (e : EnvInputs) (es : List EnvInputs) (q : List HostMove) :
    (State.resetTo c n e es q).st = .idle := rfl
@[simp] theorem resetTo_cmd (c : Config) (n : Nat) (e : EnvInputs) (es : List EnvInputs) (q : List HostMove) :
    (State.resetTo c n e es q).cmd = Config.freeCmd n := rfl
@[simp] theorem resetTo_rsp (c : Config) (n : Nat) (e : EnvInputs) (es : List EnvInputs) (q : List HostMove) :
    (State.resetTo c n e es q).rsp = Config.freeRsp n := rfl
@[simp] theorem resetTo_rspValid (c : Config) (n : Nat) (e : EnvInputs) (es : List EnvInputs) (q : List HostMove) :
    (State.resetTo c n e es q).rspValid = false := rfl
@[simp] theorem resetTo_frame (c : Config) (n : Nat) (e : EnvInputs) (es : List EnvInputs) (q : List HostMove) :
    (State.resetTo c n e es q).frame = Config.freeFrame n := rfl
@[simp] theorem resetTo_frameValid (c : Config) (n : Nat) (e : EnvInputs) (es : List EnvInputs) (q : List HostMove) :
    (State.resetTo c n e es q).frameValid = false := rfl
@[simp] theorem resetTo_pseq (c : Config) (n : Nat) (e : EnvInputs) (es : List EnvInputs) (q : List HostMove) :
    (State.resetTo c n e es q).pseq = Config.freePseq n := rfl
@[simp] theorem resetTo_pseqLen (c : Config) (n : Nat) (e : EnvInputs) (es : List EnvInputs) (q : List HostMove) :
    (State.resetTo c n e es q).pseqLen = 0 := rfl
@[simp] theorem resetTo_pseqValid (c : Config) (n : Nat) (e : EnvInputs) (es : List EnvInputs) (q : List HostMove) :
    (State.resetTo c n e es q).pseqValid = false := rfl
@[simp] theorem resetTo_txPhase (c : Config) (n : Nat) (e : EnvInputs) (es : List EnvInputs) (q : List HostMove) :
    (State.resetTo c n e es q).txPhase = .off := rfl
@[simp] theorem resetTo_txPtr (c : Config) (n : Nat) (e : EnvInputs) (es : List EnvInputs) (q : List HostMove) :
    (State.resetTo c n e es q).txPtr = 0 := rfl
@[simp] theorem resetTo_txLen (c : Config) (n : Nat) (e : EnvInputs) (es : List EnvInputs) (q : List HostMove) :
    (State.resetTo c n e es q).txLen = 0 := rfl
@[simp] theorem resetTo_txLine (c : Config) (n : Nat) (e : EnvInputs) (es : List EnvInputs) (q : List HostMove) :
    (State.resetTo c n e es q).txLine = Config.freeTxLine n := rfl
@[simp] theorem resetTo_txbuf (c : Config) (n : Nat) (e : EnvInputs) (es : List EnvInputs) (q : List HostMove) :
    (State.resetTo c n e es q).txbuf = Config.freeTxbuf n := rfl
@[simp] theorem resetTo_lines (c : Config) (n : Nat) (e : EnvInputs) (es : List EnvInputs) (q : List HostMove) :
    (State.resetTo c n e es q).lines = Vector.replicate 256 Line.reset := rfl
@[simp] theorem resetTo_env (c : Config) (n : Nat) (e : EnvInputs) (es : List EnvInputs) (q : List HostMove) :
    (State.resetTo c n e es q).env = e := rfl
@[simp] theorem resetTo_envPlan (c : Config) (n : Nat) (e : EnvInputs) (es : List EnvInputs) (q : List HostMove) :
    (State.resetTo c n e es q).envPlan = es := rfl
@[simp] theorem resetTo_hostPlan (c : Config) (n : Nat) (e : EnvInputs) (es : List EnvInputs) (q : List HostMove) :
    (State.resetTo c n e es q).hostPlan = q := rfl
@[simp] theorem resetTo_resetCount (c : Config) (n : Nat) (e : EnvInputs) (es : List EnvInputs) (q : List HostMove) :
    (State.resetTo c n e es q).resetCount = n := rfl
@[simp] theorem lineAt_resetTo (c : Config) (n : Nat) (e : EnvInputs) (es : List EnvInputs) (q : List HostMove) (m : Byte) :
    lineAt (State.resetTo c n e es q) m = Line.reset := by simp [lineAt]

/-! ### Lines -/

/-- A line after one line is overwritten. -/
@[simp] theorem lineAt_setLine (l m : Byte) (x : Line) (s : State) :
    lineAt (setLine l x s) m = if m = l then x else lineAt s m := by
  simp only [lineAt, setLine, Vector.getElem_set, BitVec.toNat_inj]
  by_cases h : l = m
  · simp [h]
  · simp [h, Ne.symm h]

@[simp] theorem lineAfter_owned (evs : List Event) (x : Line) : (lineAfter evs x).owned = x.owned := rfl
@[simp] theorem lineAfter_lineCfg (evs : List Event) (x : Line) : (lineAfter evs x).lineCfg = x.lineCfg := rfl
@[simp] theorem lineAfter_level (evs : List Event) (x : Line) : (lineAfter evs x).level = .low := rfl
@[simp] theorem lineAfter_trace (evs : List Event) (x : Line) : (lineAfter evs x).trace = x.trace ++ evs := rfl

/-! ### The operations built from the updates above -/

@[simp] theorem respondOk_eq (d : Byte) (s : State) : respondOk d s = respond (okWord d) s := rfl
@[simp] theorem raiseFailed_eq (c : Cause) (s : State) : raiseFailed c s = respond (failedWord c) s := rfl
@[simp] theorem emitEvents_eq (l : Byte) (evs : List Event) (s : State) :
    emitEvents l evs s = setLine l (lineAfter evs (lineAt s l)) s := rfl
@[simp] theorem claimLine_eq (l : Byte) (s : State) :
    claimLine l s = setLine l (lineAfter [.claim] { lineAt s l with owned := true }) s := rfl
@[simp] theorem configureLine_eq (l : Byte) (s : State) :
    configureLine l s = setLine l (lineAfter [.config carrier] { lineAt s l with lineCfg := some carrier }) s := rfl
@[simp] theorem releaseLine_eq (l : Byte) (s : State) :
    releaseLine l s = setPhase .off (setLine l (lineAfter [.release] { lineAt s l with owned := false }) s) := rfl
@[simp] theorem illegalCommand_eq (s : State) : illegalCommand s = respond (failedWord .illegalCmd) s := rfl

end Sys2Proof.Machine
end

