-- ==== Sys2Proof/Laws/Ops.lean ====
section
/-! SUPPORT. One lemma per shared operation that says everything it can do, and the inversion lemmas of a step. -/

namespace Sys2Proof.Machine

/-! ### The stores -/

/-- A place of an overlaid store: the list's entry if it has one there, else the old one. -/
@[simp] theorem getElem_overlay (v : EntryStore) (es : List Entry) (k : Nat) (h : k < 220) :
    (overlay v es)[k] = es.getD k v[k] := by
  unfold overlay
  exact Vector.getElem_ofFn h

/-- Overlaying 220 entries leaves exactly them. -/
theorem overlay_full (v : EntryStore) (es : List Entry) (h : es.length = 220) : (overlay v es).toList = es := by
  apply List.ext_getElem
  · simp [h]
  · intro k h1 h2
    have hk : k < 220 := by simpa using h1
    rw [Vector.getElem_toList]
    simp [List.getElem?_eq_getElem h2]

/-- A store is its list of 220 entries. -/
theorem store_ext {v w : EntryStore} (h : v.toList = w.toList) : v = w := Vector.toList_inj.mp h

/-- Reading a place that exists. -/
@[simp] theorem readEntry_lt (v : EntryStore) (k : Nat) (h : k < 220) : readEntry v k = some v[k] := by
  simp [readEntry, h]

/-- There is nothing past the last place. -/
theorem readEntry_none (v : EntryStore) (k : Nat) (h : 220 ≤ k) : readEntry v k = none := by
  simp [readEntry, h]

/-! ### Ranges and sums of frame bytes -/

/-- How many bytes a legal range has. -/
@[simp] theorem frameRange_length (f : FrameFile) (a b : Nat) (h : b ≤ 27) : (frameRange f a b).length = b - a := by
  simp [frameRange]; omega

/-- The bytes of a legal range, by index. -/
theorem frameRange_getElem (f : FrameFile) (a b k : Nat) (h : b ≤ 27) (hk : k < b - a) :
    (frameRange f a b)[k]'(by rw [frameRange_length f a b h]; exact hk) = f[a + k] := by
  simp [frameRange]

/-- A legal range cut in two. -/
theorem frameRange_split (f : FrameFile) (a k b : Nat) (h1 : a ≤ k) (h2 : k ≤ b) :
    frameRange f a b = frameRange f a k ++ frameRange f k b := by
  have e : b - a = (k - a) + (b - k) := by omega
  simp only [frameRange, e, List.take_add, List.drop_drop]
  congr 3
  omega

/-- Bytes past 25 are no part of the checksum's range, so overwriting one changes no range that ends before it. -/
theorem frameRange_set (f : FrameFile) (i : Nat) (x : Byte) (a b : Nat) (hi : i < 27) (hb : b ≤ i) :
    frameRange (f.set i x hi) a b = frameRange f a b := by
  apply List.ext_getElem
  · simp [frameRange]
  · intro k h1 h2
    have hk : k < b - a := by
      have := frameRange_length f a b (by omega)
      omega
    rw [frameRange_getElem _ _ _ _ (by omega) hk, frameRange_getElem _ _ _ _ (by omega) hk]
    exact Vector.getElem_set_ne _ _ (by omega)

/-- The sum of no bytes. -/
@[simp] theorem byteSum_nil : byteSum [] = 0 := rfl

/-- The sum from any start. -/
theorem byteSum_foldl (bs : List Byte) (x : Byte) : bs.foldl (· + ·) x = x + byteSum bs := by
  induction bs generalizing x with
  | nil => simp
  | cons b bs ih => simp only [byteSum, List.foldl_cons]; rw [ih, ih (0 + b)]; simp [add_assoc]

/-- The sum of one more byte. -/
@[simp] theorem byteSum_cons (b : Byte) (bs : List Byte) : byteSum (b :: bs) = b + byteSum bs := by
  simp only [byteSum, List.foldl_cons]; rw [byteSum_foldl]; simp [byteSum]

/-- The sum modulo 256, as R90 words it. -/
theorem byteSum_toNat (bs : List Byte) : (byteSum bs).toNat = (bs.map BitVec.toNat).sum % 256 := by
  induction bs with
  | nil => rfl
  | cons b bs ih => simp [BitVec.toNat_add, ih]

/-! ### Responses and parameters -/

/-- A success response is one of R68's words. -/
theorem okWord_legal (d : Byte) : LegalResponse (okWord d) := by
  have h : ∀ d, rspReserved (okWord d) = 0 ∧ rspFailed (okWord d) = false ∧ rspErr (okWord d) = 0 := by decide +kernel
  obtain ⟨h1, h2, h3⟩ := h d
  exact ⟨h1, fun _ => h3, fun hf => by simp [h2] at hf⟩

/-- A failure response is one of R68's words. -/
theorem failedWord_legal (c : Cause) : LegalResponse (failedWord c) := by
  have h : rspReserved (failedWord c) = 0 ∧ rspFailed (failedWord c) = true ∧ rspData (failedWord c) = 0 ∧
      rspErr (failedWord c) = causeCode c := by cases c <;> decide
  obtain ⟨h1, h2, h3, h4⟩ := h
  exact ⟨h1, fun hf => by simp [h2] at hf, fun _ => ⟨h3, c, h4⟩⟩

/-- A success response as a number. -/
theorem okWord_eq (d : Byte) : okWord d = BitVec.ofNat 16 d.toNat := by revert d; decide +kernel

/-- A success response is not Failed. -/
@[simp] theorem rspFailed_okWord (d : Byte) : rspFailed (okWord d) = false := by revert d; decide +kernel

/-- A success response carries its DATA. -/
@[simp] theorem rspData_okWord (d : Byte) : rspData (okWord d) = d := by revert d; decide +kernel

/-- A failure response is Failed. -/
@[simp] theorem rspFailed_failedWord (c : Cause) : rspFailed (failedWord c) = true := by cases c <;> decide

/-- The machine's parameters meet R4's constraints. -/
theorem machine_wellFormed : Config.machine.WellFormed := by
  unfold Config.machine
  split
  · assumption
  · decide

/-! ### The sequence -/

/-- Eight entries a byte. -/
@[simp] theorem bitsOf_length (c : Config) (b : Byte) : (bitsOf c b).length = 8 := rfl

/-- Eight entries for each byte of a range. -/
@[simp] theorem bytesOf_length (c : Config) (f : FrameFile) (a b : Nat) (h : b ≤ 27) :
    (bytesOf c f a b).length = 8 * (b - a) := by
  simp [bytesOf, List.length_flatMap, h, Nat.mul_comm]

/-- ENCODE appends 220 entries whatever the frame holds (R103). -/
@[simp] theorem sequenceOf_length (c : Config) (f : FrameFile) : (sequenceOf c f).length = 220 := by
  simp [sequenceOf]

/-- The sequence does not depend on the stored byte 26 (R106). -/
theorem sequenceOf_set26 (c : Config) (f : FrameFile) (x : Byte) : sequenceOf c (f.set 26 x) = sequenceOf c f := by
  simp [sequenceOf, bytesOf, cksum, frameRange_set]

/-! ### The step -/

/-- A step's outcome is a next state exactly when the agent's is. -/
theorem afterStep_next {o : Host.Outcome State Fault Refusal} {t : State} (h : afterStep o = .next t) :
    ∃ u, o = .next u ∧ t = advanceEnv u := by
  cases o with
  | next u => exact ⟨u, rfl, by simpa [afterStep] using h.symm⟩
  | fault r => simp [afterStep] at h
  | refused r => simp [afterStep] at h

/-- A step of HOST. -/
theorem step_idle {s : State} (h : s.st = .idle) : step s = .next (advanceEnv (hostStep s)) := by
  simp [step, h, afterStep]

/-- A step of the block. -/
theorem step_busy {s : State} {i : Instr} (h : s.st = .busy) (hd : decode s.cmd = .ok i) : step s = afterStep (exec i s) := by
  simp [step, h, fetchWord, hd]

/-- A step of the block on an illegal word. -/
theorem step_illegal {s : State} {e : DecodeError} (h : s.st = .busy) (hd : decode s.cmd = .error e) :
    step s = .next (advanceEnv (illegalCommand s)) := by
  simp [step, h, fetchWord, hd, afterStep]

/-- Everything a step can do. -/
theorem step_cases {s t : State} (h : step s = .next t) :
    (s.st = .idle ∧ t = advanceEnv (hostStep s)) ∨
    (∃ i u, s.st = .busy ∧ decode s.cmd = .ok i ∧ exec i s = .next u ∧ t = advanceEnv u) ∨
    (∃ e, s.st = .busy ∧ decode s.cmd = .error e ∧ t = advanceEnv (illegalCommand s)) := by
  cases hs : s.st with
  | idle => rw [step_idle hs] at h; cases h; exact .inl ⟨rfl, rfl⟩
  | busy =>
    cases hd : decode s.cmd with
    | ok i =>
      rw [step_busy hs hd] at h
      obtain ⟨u, hu, rfl⟩ := afterStep_next h
      exact .inr (.inl ⟨i, u, rfl, rfl, hu, rfl⟩)
    | error e => rw [step_illegal hs hd] at h; cases h; exact .inr (.inr ⟨e, rfl, rfl, rfl⟩)

/-- Everything HOST's step can do. -/
theorem hostStep_cases (s : State) :
    hostStep s = s ∨
    (∃ w q, (s.hostPlan = .present w :: q ∨ s.hostPlan = .presentIfOk w :: q) ∧ hostStep s = accept w (setHostPlan q s)) ∨
    (∃ w q, s.hostPlan = .presentIfOk w :: q ∧ hostStep s = setHostPlan q s) ∨
    (∃ q, s.hostPlan = .reset :: q ∧ hostStep s = applyReset q s) := by
  unfold hostStep
  split
  · exact .inl rfl
  · rename_i w q hp; exact .inr (.inl ⟨w, q, .inl hp, rfl⟩)
  · rename_i w q hp
    split
    · exact .inr (.inl ⟨w, q, .inr hp, rfl⟩)
    · exact .inr (.inr (.inl ⟨w, q, hp, rfl⟩))
  · rename_i q hp; exact .inr (.inr (.inr ⟨q, hp, rfl⟩))

/-! ### What each command can answer -/

/-- BUILD_OFF answers one next state. -/
theorem execBuildOff_eq (s : State) : execBuildOff s = .next (finishBuild s.cfg.template s) := rfl

/-- Everything BUILD_ON can answer. -/
theorem execBuildOn_cases (mode : BitVec 3) (temp : Byte) (s : State) :
    (modeOf mode = none ∧ execBuildOn mode temp s = .next (raiseFailed .illegalCmd s)) ∨
    (∃ m, modeOf mode = some m ∧ tempByte s.cfg.tempPolicy temp = none ∧
      execBuildOn mode temp s = .next (raiseFailed .tempRange s)) ∨
    (∃ m b14, modeOf mode = some m ∧ tempByte s.cfg.tempPolicy temp = some b14 ∧
      execBuildOn mode temp s = .next (finishBuild (onFrame s.cfg.template (modeCode s.cfg m) b14) s)) := by
  unfold execBuildOn
  cases hm : modeOf mode with
  | none => exact .inl ⟨rfl, rfl⟩
  | some m =>
    cases hb : tempByte s.cfg.tempPolicy temp with
    | none => exact .inr (.inl ⟨m, rfl, rfl, rfl⟩)
    | some b14 => exact .inr (.inr ⟨m, b14, rfl, rfl, rfl⟩)

/-- Everything CHECKSUM can answer. -/
theorem execChecksum_cases (a b : BitVec 5) (s : State) :
    (s.frameValid = false ∧ execChecksum a b s = .next (raiseFailed .noFrame s)) ∨
    (s.frameValid = true ∧ badRange a b = true ∧ execChecksum a b s = .next (raiseFailed .badRange s)) ∨
    (s.frameValid = true ∧ badRange a b = false ∧
      execChecksum a b s = .next (respondOk (cksum s.frame a.toNat b.toNat) s)) := by
  unfold execChecksum
  cases hf : s.frameValid <;> cases hr : badRange a b <;> simp

/-- Everything ENCODE can answer. -/
theorem execEncode_cases (s : State) :
    (s.frameValid = false ∧ execEncode s = .next (raiseFailed .noFrame s)) ∨
    (s.frameValid = true ∧ execEncode s = .next (respondOk 220 (sequenceBuilt
      (writeSequence (sequenceOf s.cfg s.frame) (writeFrame (withChecksum s.frame) s))))) := by
  unfold execEncode
  cases hf : s.frameValid <;> simp

/-- Everything SEND can answer with a next state, phase by phase. -/
theorem execSend_cases {l : Byte} {s t : State} (h : execSend l s = .next t) :
    (s.txPhase = .off ∧ s.pseqValid = false ∧ t = raiseFailed .noSequence s) ∨
    (s.txPhase = .off ∧ s.pseqValid = true ∧ lineExists s.cfg l = false ∧ t = raiseFailed .cfgInvalidLine s) ∨
    (s.txPhase = .off ∧ s.pseqValid = true ∧ lineExists s.cfg l = true ∧
      t = raiseFailed .cfgLineUnavailable (setTxLine l s)) ∨
    (s.txPhase = .off ∧ s.pseqValid = true ∧ lineExists s.cfg l = true ∧ t = setPhase .claim (setTxLine l s)) ∨
    (s.txPhase = .claim ∧ t = raiseFailed .hwBusy (setPhase .off s)) ∨
    (s.txPhase = .claim ∧ t = setPhase .configure (claimLine l s)) ∨
    (s.txPhase = .configure ∧ t = setPhase .load (configureLine l s)) ∨
    (s.txPhase = .configure ∧ t = raiseFailed .cfgUnsupportedCarrier (releaseLine l s)) ∨
    (s.txPhase = .load ∧ s.pseqLen.toNat ≤ 220 ∧ t = setPhase .emit (loadTxbuf s)) ∨
    (s.txPhase = .emit ∧ s.txPtr < s.txLen ∧ drawHwFault s = true ∧ t = raiseFailed .hwFault (releaseLine l s)) ∨
    (s.txPhase = .emit ∧ s.txPtr < s.txLen ∧ drawHwFault s = false ∧
      ∃ hk : s.txPtr.toNat < 220, t = emitEntry l s.txbuf[s.txPtr.toNat] s) ∨
    (s.txPhase = .emit ∧ ¬ s.txPtr < s.txLen ∧ t = setPhase .release s) ∨
    (s.txPhase = .release ∧ t = sendRelease l s) := by
  unfold execSend at h
  split at h <;> rename_i hp
  · simp only [Host.Outcome.next.injEq] at h
    subst h
    unfold sendAdmit
    cases hv : s.pseqValid <;> cases hl : lineExists s.cfg l <;> cases ha : (inputsAt s l).available <;> simp [hp]
  · simp only [Host.Outcome.next.injEq] at h
    subst h
    unfold sendClaim
    cases ha : (inputsAt s l).claimed <;> simp [hp]
  · simp only [Host.Outcome.next.injEq] at h
    subst h
    unfold sendConfigure
    cases ha : (inputsAt s l).carrierOk <;> simp [hp]
  · unfold sendLoad at h
    split at h
    · rename_i hle
      cases h
      simp [hp, hle]
    · cases h
  · unfold sendEmit at h
    split at h
    · rename_i hlt
      split at h
      · rename_i hd
        cases h
        simp [hp, hlt, hd]
      · rename_i hd
        by_cases hk : s.txPtr.toNat < 220
        · rw [readEntry_lt _ _ hk] at h
          cases h
          simp [hp, hlt, hd, hk]
        · rw [readEntry_none _ _ (by omega)] at h
          cases h
    · rename_i hlt
      cases h
      simp [hp, hlt]
  · cases h
    simp [hp]

end Sys2Proof.Machine
end

