-- ==== Sys2Proof/Laws/PerInstr.lean ====
section
/-! SUPPORT. Statements made for every command, one lemma per constructor. -/

namespace Sys2Proof.Laws.RowMatch

/-- The word of a command is its row's command: `w & mask = match` (R62). -/
def Statement (i : Instr) : Prop := (opcodeRow i).holds (encode i) = true

theorem buildOff : Statement .buildOff := by unfold Statement; decide

theorem buildOn (mode : BitVec 3) (temp : Byte) : Statement (.buildOn mode temp) := by
  unfold Statement; revert mode temp; decide +kernel

theorem checksum (start stop : BitVec 5) : Statement (.checksum start stop) := by
  unfold Statement; revert start stop; decide +kernel

theorem encode : Statement .encode := by unfold Statement; decide

theorem send (line : Byte) : Statement (.send line) := by unfold Statement; revert line; decide +kernel

end Sys2Proof.Laws.RowMatch
end

