-- ==== Sys2Proof/Laws/Sequence.lean ====
section
/-! SUPPORT. What ENCODE's sequence and the checksum are, in the terms of the spec's pictures (R49, R90). -/

namespace Sys2Proof.Machine

/-- The number a range's bytes sum to. -/
theorem frameSum_eq (f : FrameFile) (a b : Nat) (h : b ≤ 27) :
    frameSum f a b = ((frameRange f a b).map BitVec.toNat).sum := by
  unfold frameSum
  congr 1
  apply List.ext_getElem
  · simp [h]
  · intro k h1 h2
    have hk : k < b - a := by simpa using h1
    have h3 : a + k < 27 := by omega
    simp [frameRange_getElem f a b k h hk, h3]

/-- The checksum is the byte sum modulo 256 (R90). -/
theorem cksum_eq (f : FrameFile) (a b : Nat) (h : b ≤ 27) : cksum f a b = BitVec.ofNat 8 (frameSum f a b) := by
  apply BitVec.eq_of_toNat_eq
  simp [cksum, byteSum_toNat, frameSum_eq f a b h]

/-- A byte's entry `j` is its bit `j` (R100). -/
theorem bitsOf_getElem (c : Config) (b : Byte) (j : Nat) (h : j < 8) :
    (bitsOf c b)[j]? = some (sym c (b.getLsbD j)) := by
  have hj : j = 0 ∨ j = 1 ∨ j = 2 ∨ j = 3 ∨ j = 4 ∨ j = 5 ∨ j = 6 ∨ j = 7 := by omega
  rcases hj with rfl | rfl | rfl | rfl | rfl | rfl | rfl | rfl <;> rfl

/-- Entry `k` of a list of bytes is bit `k % 8` of byte `k / 8`. -/
theorem flatMap_bitsOf_getElem (c : Config) (l : List Byte) (k : Nat) (h : k < 8 * l.length) :
    (l.flatMap (bitsOf c))[k]? = some (sym c ((l[k / 8]'(by omega)).getLsbD (k % 8))) := by
  induction l generalizing k with
  | nil => simp at h
  | cons b l ih =>
    simp only [List.flatMap_cons]
    by_cases hk : k < 8
    · have e1 : k / 8 = 0 := by omega
      have e2 : k % 8 = k := by omega
      rw [List.getElem?_append_left (by simpa using hk), bitsOf_getElem _ _ _ hk]
      simp only [e1, e2, List.getElem_cons_zero]
    · have e1 : k / 8 = (k - 8) / 8 + 1 := by omega
      have e2 : k % 8 = (k - 8) % 8 := by omega
      rw [List.getElem?_append_right (by simp; omega)]
      simp only [bitsOf_length]
      rw [ih (k - 8) (by simp at h; omega)]
      simp [e1, e2]

/-- Entry `k` of a range is bit `k % 8` of the range's byte `k / 8`. -/
theorem bytesOf_getElem (c : Config) (f : FrameFile) (a b k : Nat) (hb : b ≤ 27) (h : k < 8 * (b - a)) :
    (bytesOf c f a b)[k]? = some (bitEntry c f (a + k / 8) (k % 8)) := by
  unfold bytesOf
  rw [flatMap_bitsOf_getElem c _ k (by simp [hb, h])]
  have h3 : a + k / 8 < 27 := by omega
  simp [bitEntry, sym, frameRange_getElem f a b (k / 8) hb (by omega), h3]

end Sys2Proof.Machine
end

