-- ==== Sys2Proof/Tests/Slice0.lean ====
section
/-! SUPPORT. Tests against the spec's own vectors (95_test_vectors.md), the smoke test of WellFormed, and the witnesses of the statements' hypotheses. -/

namespace Sys2Proof.Tests

open Sys2Proof Sys2Proof.Machine

/-! ### Helpers -/

/-- An environment whose 256 lines have the same inputs. -/
def allLines (i : LineInputs) (fault : Bool) : EnvInputs := ⟨Vector.replicate 256 i, fault⟩

/-- "Free line" of 95_test_vectors.md, no fault drawn. -/
def freeEnv : EnvInputs := allLines ⟨true, false, true⟩ false

/-- The reset state under CFG_T, every line free. -/
def base : State := State.resetTo Config.cfgT 0 freeEnv [] []

/-- The reset state under CFG_T with another temperature policy. -/
def basePolicy (p : TempPolicy) : State := State.resetTo { Config.cfgT with tempPolicy := p } 0 freeEnv [] []

/-- The next state of a command, for tests that know there is one. -/
def after (i : Instr) (s : State) : State :=
  match exec i s with
  | .next t => t
  | _ => s

/-- After `BUILD_OFF`. -/
def built : State := finishBuild Config.templateT0 base

/-- V-E1's sequence. -/
def storeE1 : EntryStore := ⟨(sequenceOf Config.cfgT Config.templateT0).toArray, by simp⟩

/-- After `BUILD_OFF ; ENCODE` (V-E1). -/
def encoded : State :=
  { built with pseq := storeE1, pseqLen := 220, pseqValid := true, frame := withChecksum Config.templateT0, rsp := 0x00DC }

/-- `SEND 0` just accepted in V-E1's state, after an earlier command for line 0. -/
def sending : State := accept 0x5000 (setTxLine 0 encoded)

/-- V-E1's state in a phase of `SEND 0`. -/
def inPhase (p : TxPhase) : State := setPhase p (setTxLine 0 sending)

/-- V-E1's state in EMIT, TXBUF loaded, `k` entries emitted. -/
def emitting (k : BitVec 8) : State := { sending with txPhase := .emit, txbuf := storeE1, txLen := 220, txPtr := k }

/-- The same with another environment. -/
def withEnv (e : EnvInputs) (s : State) : State := { s with env := e }

/-- V-T1's state before its RELEASE: every entry emitted. -/
def allSent : State :=
  setLine 0 { owned := true, lineCfg := some carrier, level := .low,
              trace := [.claim, .config carrier] ++ storeE1.toList.flatMap segments }
    (setPhase .release (emitting 220))

/-- HOST about to issue `XMIT_OFF 0`. -/
def asking : State := setHostPlan [.present 0x1000, .presentIfOk 0x4000, .presentIfOk 0x5000] base

/-! ### WellFormed -/

/-- R65: selector 5 names no mode. -/
theorem test_wf_refuses_mode_5 : Instr.wf (.buildOn 5 16) = false := by decide

/-- R65: Heat, selector 4, is the last mode. -/
theorem test_wf_admits_mode_4 : Instr.wf (.buildOn 4 16) = true := by decide

/-! ### Decoding (95_test_vectors.md section 2.5) -/

/-- R62: `BUILD_OFF` is opcode 1 and zeros. -/
theorem test_decode_buildOff : decode 0x1000 = .ok .buildOff := by decide
/-- E2: `BUILD_ON HEAT, 25` is `0x2419`. -/
theorem test_decode_buildOn : decode 0x2419 = .ok (.buildOn 4 25) := by decide
/-- V-C13: `CHECKSUM 20, 10` is `0x328A`, a legal word. -/
theorem test_decode_checksum : decode 0x328A = .ok (.checksum 20 10) := by decide
/-- R62: `ENCODE` is opcode 4 and zeros. -/
theorem test_decode_encode : decode 0x4000 = .ok .encode := by decide
/-- V-T17: `SEND 255` is `0x50FF`. -/
theorem test_decode_send : decode 0x50FF = .ok (.send 255) := by decide
/-- `0x4001`: a reserved bit set. -/
theorem test_decode_reservedBit : decode 0x4001 = .error .reservedBits := by decide
/-- `0x2710`: mode selector 7. -/
theorem test_decode_mode7 : decode 0x2710 = .error .reservedMode := by decide
/-- `0xFFFF`: opcode 15. -/
theorem test_decode_opcode15 : decode 0xFFFF = .error .reservedOpcode := by decide

/-! ### One step of each command -/

/-- The helper state is the machine's answer. -/
theorem built_is_next : exec .buildOff base = .next built := rfl
/-- V-B1: FRAME is T0, its stale byte 26 included; the response is 0x0000. -/
theorem test_buildOff : built.frame = Config.templateT0 ∧ built.frameValid = true ∧ built.rsp = 0x0000 := by decide

/-- V-B10: a BUILD after ENCODE discards the sequence and recopies byte 26. -/
theorem test_buildOff_discards : (after .buildOff encoded).pseqValid = false ∧ (after .buildOff encoded).frame[26] = 0xEE := by
  decide

/-- V-B3 and V-B8: Cool at 16 gives 0x39 and 0x20, also after Heat. -/
theorem test_buildOn : (after (.buildOn 3 16) (after (.buildOn 4 25) base)).frame[13] = 0x39 ∧
    (after (.buildOn 3 16) (after (.buildOn 4 25) base)).frame[14] = 0x20 := by decide

/-- V-B11, V-B12, V-B13: 200 passes through as 0x90, clamps to 16 (0x20), is rejected with 0x8C00. -/
theorem test_buildOn_policies : (after (.buildOn 4 200) base).frame[14] = 0x90 ∧
    (after (.buildOn 4 200) (basePolicy .clamp)).frame[14] = 0x20 ∧
    (after (.buildOn 4 200) (basePolicy .reject)).rsp = 0x8C00 := by decide

/-- V-C1, V-C3: the normative range gives 0x5B, the whole frame 0x55. -/
theorem test_checksum : (after (.checksum 8 26) built).rsp = 0x005B ∧ (after (.checksum 0 27) built).rsp = 0x0055 := by
  decide

/-- V-C8, V-C15, V-C20: the empty range at 27 is legal, at 28 it is not, and NO_FRAME comes before BAD_RANGE. -/
theorem test_checksum_ranges : (after (.checksum 27 27) built).rsp = 0x0000 ∧
    (after (.checksum 28 28) built).rsp = 0x8B00 ∧ (after (.checksum 20 10) base).rsp = 0x8900 := by decide

/-- V-E1: byte 26 becomes 0x5B; entry 2 is ONE, entry 65 Pause, entry 211 ONE, entry 213 ZERO, entry 219 End. -/
theorem test_encode : (after .encode built).frame[26] = 0x5B ∧ (after .encode built).rsp = 0x00DC ∧
    (after .encode built).pseq[2] = ⟨435, 1300⟩ ∧ (after .encode built).pseq[65] = ⟨435, 10000⟩ ∧
    storeE1[211] = ⟨435, 1300⟩ ∧ storeE1[213] = ⟨435, 435⟩ ∧ storeE1[219] = ⟨435, 0⟩ := by decide +kernel

/-- The helper state's sequence is the one ENCODE writes. -/
theorem encoded_sequence : (after .encode built).pseq = encoded.pseq :=
  store_ext (overlay_full _ _ (sequenceOf_length _ _))

/-- V-E11: 0xAF is OOOOZOZO, bit 0 first. -/
theorem test_encode_bitOrder : bitsOf Config.cfgT 0xAF =
    [⟨435, 1300⟩, ⟨435, 1300⟩, ⟨435, 1300⟩, ⟨435, 1300⟩, ⟨435, 435⟩, ⟨435, 1300⟩, ⟨435, 435⟩, ⟨435, 1300⟩] := by decide

/-- V-T3, V-T7: an unavailable line responds 0x8200; a claimed line that cannot carry the carrier responds 0x8400. -/
theorem test_send_failures :
    (after (.send 1) (withEnv (allLines ⟨false, true, false⟩ false) sending)).rsp = 0x8200 ∧
    (after (.send 1) (withEnv (allLines ⟨true, true, false⟩ false) (inPhase .claim))).rsp = 0x8400 := by decide

/-- V-T1a, first and last entries: Header gives MARK(3500) SPACE(1750), End gives MARK(435) alone and ends EMIT. -/
theorem test_send_emits : (lineAt (after (.send 0) (emitting 0)) 0).trace = [.mark 3500, .space 1750] ∧
    (after (.send 0) (emitting 0)).txPhase = .emit ∧
    (lineAt (after (.send 0) (emitting 219)) 0).trace = [.mark 435] ∧
    (after (.send 0) (emitting 219)).txPhase = .release := by decide

/-- Section 2.2's function-level vectors of the byte sum. -/
theorem test_byteSum : byteSum [0xFF, 0x01] = 0x00 ∧ byteSum [0xFF, 0xFF] = 0xFE ∧
    byteSum (List.replicate 18 0xFF) = 0xEE := by decide

/-- P2's first line, V-B18's word, and a refused operand (R71). -/
theorem test_assembler : (parseLine "BUILD_ON COOL, 0x10 ; P2".toList) = some [.command (.buildOn 3 16)] ∧
    assemble (.buildOn 3 (-5)) = some 0x23FB ∧ assemble (.buildOn 8 16) = none := by decide

/-- V-H1: acceptance raises ST and clears RSP_VALID; the next step completes the command. -/
theorem test_handshake : cmdReady base = true ∧ cmdReady (hostStep asking) = false ∧ (hostStep asking).cmd = 0x1000 := by
  decide

/-! ### Witnesses: for each statement with hypotheses, a state and operands that meet them -/

theorem witness_DecodeInvertsEncode : Instr.wf (.buildOn 4 255) = true := by decide

theorem witness_DecodedWordIsItsEncoding : decode 0x3362 = .ok (.checksum 27 2) := by decide

/-- A legal word on the last row, a word that matches the BUILD_ON row and names no mode, and one with a reserved bit set. -/
theorem witness_OpcodeMapHolds : decode 0x50FF = .ok (.send 255) ∧
    (⟨0x2000, 0xF800⟩ : OpcodeRow) ∈ opcodeRows ∧ (0x27FF : HalfWord) &&& 0xF800 = 0x2000 ∧
    decode 0x2800 = .error .reservedBits := by decide

/-- An illegal word presented, and one in CMD. -/
theorem witness_IllegalWordsFail : IllegalWord 0x7000 ∧ base.st = .idle ∧
    (setHostPlan [.present 0x7000] base).hostPlan = [.present 0x7000] ∧
    (accept 0x7000 base).cmd = 0x7000 ∧ (accept 0x7000 base).st = .busy :=
  ⟨.inl (by decide), rfl, rfl, rfl, rfl⟩

theorem witness_StepRunsTheCommandInCmd : sending.st = .busy ∧ decode sending.cmd = .ok (.send 0) ∧ Instr.wf .encode = true := by
  decide

/-- A command accepted; a busy state that steps. -/
theorem witness_CommandPortHandshake : asking.st = .idle ∧
    asking.hostPlan = .present 0x1000 :: [.presentIfOk 0x4000, .presentIfOk 0x5000] ∧
    sending.st = .busy ∧ step sending = afterStep (exec (.send 0) sending) :=
  ⟨rfl, rfl, rfl, step_busy rfl (by decide)⟩

/-- The next word of an expansion after a success, and after a failure. -/
theorem witness_ExpansionStopsAtFailed :
    (setHostPlan [.presentIfOk 0x4000] built).st = .idle ∧ (setHostPlan [.presentIfOk 0x4000] built).rspValid = true ∧
    rspFailed (setHostPlan [.presentIfOk 0x4000] built).rsp = false ∧
    (setHostPlan [.presentIfOk 0x4000] (after .encode base)).st = .idle ∧
    (setHostPlan [.presentIfOk 0x4000] (after .encode base)).rspValid = true ∧
    rspFailed (setHostPlan [.presentIfOk 0x4000] (after .encode base)).rsp = true := by decide

theorem witness_ResetTable : (setHostPlan [.reset] encoded).st = .idle ∧ (setHostPlan [.reset] encoded).hostPlan = [.reset] := by
  decide

theorem witness_AfterReset : base.st = .idle ∧ base.hostPlan = [] ∧ (4 : BitVec 3).toNat < 5 := ⟨rfl, rfl, by decide⟩

/-- Two BUILD_OFFs in a row, and an illegal word of the opcode. -/
theorem witness_BuildOffCopiesTemplate : exec .buildOff base = .next built ∧
    exec .buildOff built = .next (after .buildOff built) ∧
    opField 0x1800 = 1 ∧ reservedN 0x1800 ≠ 0 := ⟨rfl, rfl, by decide, by decide⟩

/-- Heat, the last mode, at the last temperature REJECT accepts; selector 5; one degree outside each end of the range under REJECT;
an illegal word of the opcode; parameters that meet R4. -/
theorem witness_BuildOnBuildsTheFrame : (4 : BitVec 3).toNat < 5 ∧
    tempByte (basePolicy .reject).cfg.tempPolicy 30 = some 60 ∧
    5 ≤ (5 : BitVec 3).toNat ∧ (basePolicy .reject).cfg.tempPolicy = .reject ∧
    (15 : Byte).toInt < 16 ∧ 30 < (31 : Byte).toInt ∧ opField 0x2810 = 2 ∧ reservedB 0x2810 ≠ 0 ∧
    Config.cfgT.WellFormed ∧ (0x40 : Byte) ∈ codeTable Config.cfgT := by decide

/-- The ends of the range, and one degree outside each. -/
theorem witness_TemperatureBytePolicies : 16 ≤ (16 : Byte).toInt ∧ (16 : Byte).toInt ≤ 30 ∧ 16 ≤ (30 : Byte).toInt ∧
    (30 : Byte).toInt ≤ 30 ∧ (15 : Byte).toInt < 16 ∧ 30 < (31 : Byte).toInt := by decide

theorem witness_BuildOnFieldBits : (0 : BitVec 3).toNat < 5 ∧ base.cfg.WellFormed ∧ 16 ≤ (30 : Byte).toInt ∧
    (30 : Byte).toInt ≤ 30 := ⟨by decide, (by decide : Config.cfgT.WellFormed), by decide, by decide⟩

/-- Two states with one configuration and different pasts. -/
theorem witness_BuildForgetsThePast : base.cfg = encoded.cfg ∧ base.frameValid ≠ encoded.frameValid ∧
    (∃ mode temp, Instr.buildOn 3 16 = .buildOn mode temp) ∧ rspFailed (after (.buildOn 3 16) base).rsp = false :=
  ⟨rfl, by decide, ⟨3, 16, rfl⟩, by decide⟩

/-- The empty range at 27, no frame, a range one past the frame, one reversed by one, and an illegal word of the opcode. -/
theorem witness_ChecksumOfTheRange : built.frameValid = true ∧ (27 : BitVec 5).toNat ≤ (27 : BitVec 5).toNat ∧
    (27 : BitVec 5).toNat ≤ 27 ∧ base.frameValid = false ∧ 27 < (28 : BitVec 5).toNat ∧
    (26 : BitVec 5).toNat < (27 : BitVec 5).toNat ∧ opField 0x3400 = 3 ∧ reservedC 0x3400 ≠ 0 := by decide

/-- V-C10's split, and section 2.2's permuted bytes. -/
theorem witness_ChecksumSplitsAndPermutes : 8 ≤ 13 ∧ 13 ≤ 26 ∧ 26 ≤ 27 ∧
    List.Perm ([0x01, 0x02, 0x03] : List Byte) [0x03, 0x01, 0x02] := by decide

theorem witness_ChecksumReadsBack : 26 < 27 ∧ built.frameValid = true := by decide

theorem witness_EncodeWritesTheLayout : built.frameValid = true ∧ base.frameValid = false ∧ opField 0x4001 = 4 ∧
    reservedN 0x4001 ≠ 0 := by decide

theorem witness_EncodeRoundTrip : built.cfg.tZero ≠ built.cfg.tOne ∧ built.frameValid = true := by decide

/-- Frames that agree on bytes 0 to 25 and differ in byte 26; and ENCODE twice. -/
theorem witness_EncodeIsDeterministic : built.cfg = encoded.cfg ∧ built.frameValid = true ∧ encoded.frameValid = true ∧
    (∀ (i : Nat) (h : i < 26), built.frame[i] = encoded.frame[i]) ∧ built.frame[26] ≠ encoded.frame[26] ∧
    exec .encode built = .next (after .encode built) ∧ exec .encode encoded = .next (after .encode encoded) :=
  ⟨rfl, by decide, by decide, by decide, by decide, rfl, rfl⟩

theorem witness_SignalLength : built.frameValid = true := by decide

/-- One state for each clause, the lines at the boundary of CFG_T's two. -/
theorem witness_SendAdmission : base.txPhase = .off ∧ base.pseqValid = false ∧
    sending.txPhase = .off ∧ sending.pseqValid = true ∧
    sending.cfg.nLines ≤ (2 : Byte).toNat ∧ (1 : Byte).toNat < sending.cfg.nLines ∧
    (inputsAt (withEnv (allLines ⟨false, false, true⟩ false) sending) 1).available = false ∧
    (inputsAt sending 1).available = true := by decide

theorem witness_SendClaims : (inPhase .claim).txPhase = .claim ∧ (inputsAt (inPhase .claim) 0).claimed = false ∧
    (inputsAt (withEnv (allLines ⟨true, true, true⟩ false) (inPhase .claim)) 0).claimed = true := by decide

theorem witness_SendConfigures : (inPhase .configure).txPhase = .configure ∧
    (inputsAt (inPhase .configure) 0).carrierOk = true ∧
    (inputsAt (withEnv (allLines ⟨true, false, false⟩ false) (inPhase .configure)) 0).carrierOk = false := by decide

theorem witness_SendLoads : (inPhase .load).txPhase = .load ∧ (inPhase .load).pseqLen.toNat ≤ 220 := by decide

/-- An entry with a SPACE, and the terminator. -/
theorem witness_SendEmitsOneEntry :
    (emitting 0).txPhase = .emit ∧ (emitting 0).txPtr.toNat < 220 ∧ (emitting 0).txPtr.toNat < (emitting 0).txLen.toNat ∧
    drawHwFault (emitting 0) = false ∧
    (emitting 219).txPtr.toNat < 220 ∧ (emitting 219).txPtr.toNat < (emitting 219).txLen.toNat ∧
    drawHwFault (emitting 219) = false := by decide

/-- A fault drawn at the first entry; and a state whose fault model is NEVER. -/
theorem witness_SendFaultsInEmission :
    (withEnv (allLines ⟨true, false, true⟩ true) (emitting 0)).txPhase = .emit ∧
    (withEnv (allLines ⟨true, false, true⟩ true) (emitting 0)).txPtr.toNat <
      (withEnv (allLines ⟨true, false, true⟩ true) (emitting 0)).txLen.toNat ∧
    drawHwFault (withEnv (allLines ⟨true, false, true⟩ true) (emitting 0)) = true ∧
    { emitting 0 with cfg := { Config.cfgT with hwFaultModel := .never } }.cfg.hwFaultModel = .never ∧
    { emitting 0 with cfg := { Config.cfgT with hwFaultModel := .never } }.rsp ≠ 0x8500 := by decide

/-- SEND steps on under NEVER although ENV draws a fault. -/
theorem witness_SendFaultsInEmission_never :
    exec (.send 0) (withEnv (allLines ⟨true, false, true⟩ true)
      { emitting 0 with cfg := { Config.cfgT with hwFaultModel := .never } }) =
    .next (after (.send 0) (withEnv (allLines ⟨true, false, true⟩ true)
      { emitting 0 with cfg := { Config.cfgT with hwFaultModel := .never } })) := rfl

theorem witness_SendReleasesAndIsSent : allSent.txPhase = .release := rfl

/-- No line is touched before a SEND. -/
theorem lineAt_sending (l : Byte) : lineAt sending l = Line.reset := by
  have h : lineAt sending l = lineAt base l := rfl
  rw [h]; simp [base]

/-- HOST's plan touches no line. -/
theorem lineAt_asking (l : Byte) : lineAt asking l = Line.reset := by simp [asking, base]

/-- Line 0 in V-T1 just before its RELEASE. -/
def lineInV_T1 : Line :=
  { owned := true, lineCfg := some carrier, level := .low,
    trace := [.claim, .config carrier] ++ storeE1.toList.flatMap segments }

/-- V-T1 touches line 0 alone. -/
theorem lineAt_allSent (l : Byte) : lineAt allSent l = if l = 0 then lineInV_T1 else Line.reset := by
  have h : lineAt (setPhase .release (emitting 220)) l = lineAt base l := rfl
  unfold allSent
  rw [lineAt_setLine, h]; simp [base, lineInV_T1]

/-- The events of line 0 in V-T1 have durations in 1..65535. -/
theorem lineInV_T1_timed : ∀ e ∈ lineInV_T1.trace, e.timed = true := by decide +kernel

/-- V-T1 just before its first step meets the invariant. -/
theorem sending_meets_invariant : MachineInv sending where
  params := by decide
  idleOff := by decide
  busyNoResponse := by decide
  response := by intro h; cases h
  frame := fun _ => ⟨Config.templateT0, .inl rfl, .inr (by decide)⟩
  sequence := fun _ => ⟨rfl, rfl, by decide, rfl⟩
  inFlight := by intro h; exact absurd rfl h
  owned := by intro l; rw [lineAt_sending]; simp [Line.reset]; intro _; rfl
  level := by intro l; rw [lineAt_sending]; rfl
  lineCfg := by intro l; rw [lineAt_sending]; exact .inl rfl
  absent := fun l _ => lineAt_sending l
  configured := by decide
  loaded := by decide
  pointer := by decide
  allEmitted := by decide
  trace := by intro h; cases h
  durations := by intro l; rw [lineAt_sending]; intro e h; cases h

/-- V-T1 just before its RELEASE meets the invariant. -/
theorem allSent_meets_invariant : MachineInv allSent where
  params := by decide
  idleOff := by decide
  busyNoResponse := by decide
  response := by intro h; cases h
  frame := fun _ => ⟨Config.templateT0, .inl rfl, .inr (by decide)⟩
  sequence := fun _ => ⟨rfl, rfl, by decide, rfl⟩
  inFlight := by decide
  owned := by
    intro l
    have hl : allSent.txLine = 0 := rfl
    have hp : allSent.txPhase.holdsLine = true := rfl
    rw [lineAt_allSent, hl, hp]
    split <;> simp_all [lineInV_T1, Line.reset]
  level := by
    intro l
    rw [lineAt_allSent]
    split <;> rfl
  lineCfg := by
    intro l
    rw [lineAt_allSent]
    split
    · exact .inr rfl
    · exact .inl rfl
  absent := by
    intro l hl
    rw [lineAt_allSent, if_neg]
    rintro rfl
    exact absurd hl (by decide)
  configured := by decide
  loaded := fun _ => ⟨rfl, rfl⟩
  pointer := by decide
  allEmitted := by decide
  trace := by
    intro _
    have hp : allSent.txPhase = .release := rfl
    have hb : allSent.txbuf = storeE1 := rfl
    have hk : allSent.txPtr = 220 := rfl
    have ht : allSent.txLine = 0 := rfl
    have hl : storeE1.toList.take (220 : BitVec 8).toNat = storeE1.toList := List.take_of_length_le (by simp)
    simp only [signalSoFar, hp, hb, hk, ht, hl, lineAt_allSent, lineInV_T1, if_true]
    exact List.suffix_refl _
  durations := by
    intro l
    rw [lineAt_allSent]
    split
    · exact lineInV_T1_timed
    · intro e h; cases h

/-- HOST about to issue XMIT_OFF 0 meets the invariant. -/
theorem asking_meets_invariant : MachineInv asking where
  params := by decide
  idleOff := by decide
  busyNoResponse := by decide
  response := by intro h; cases h
  frame := by intro h; cases h
  sequence := by intro h; cases h
  inFlight := by intro h; exact absurd rfl h
  owned := by intro l; rw [lineAt_asking]; simp [Line.reset]; intro _; rfl
  level := by intro l; rw [lineAt_asking]; rfl
  lineCfg := by intro l; rw [lineAt_asking]; exact .inl rfl
  absent := fun l _ => lineAt_asking l
  configured := by decide
  loaded := by decide
  pointer := by decide
  allEmitted := by decide
  trace := by intro h; cases h
  durations := by intro l; rw [lineAt_asking]; intro e h; cases h

/-- Line 1, the last of CFG_T's two, just like line 0. -/
theorem witness_SendRunsToSent : MachineInv sending ∧ sending.st = .busy ∧ sending.txPhase = .off ∧
    decode sending.cmd = .ok (.send 0) ∧ sending.pseqValid = true ∧ (0 : Byte).toNat < sending.cfg.nLines ∧
    (∀ e ∈ sending.env :: sending.envPlan, lineFree e 0 = true ∧ (sending.cfg.hwFaultModel = .any → e.hwFault = false)) :=
  ⟨sending_meets_invariant, rfl, rfl, by decide, by decide, by decide, by decide⟩

theorem witness_TransmissionRequestOnTheWire : MachineInv asking ∧ asking.st = .idle ∧
    (Pseudo.xmitOff 0 = .xmitOff (0 : Byte).toNat ∧ Config.templateT0 = asking.cfg.template) ∧
    (lineMoves (.pseudo (.xmitOff 0))).map (· ++ []) = some asking.hostPlan ∧ (0 : Byte).toNat < asking.cfg.nLines ∧
    (∀ e ∈ asking.env :: asking.envPlan, lineFree e 0 = true ∧ (asking.cfg.hwFaultModel = .any → e.hwFault = false)) :=
  ⟨asking_meets_invariant, rfl, ⟨rfl, rfl⟩, by decide, by decide, by decide⟩

/-- HOST about to issue `XMIT_ON COOL, -5, 0`, whose temperature field is 0xFB. -/
def askingOn : State := setHostPlan [.present 0x23FB, .presentIfOk 0x4000, .presentIfOk 0x5000] base

/-- XMIT_ON's premise, a temperature with a minus sign. -/
theorem witness_TransmissionRequestOnTheWire_on :
    (∃ (m : Mode) (temp : Int) (b14 : Byte), Pseudo.xmitOn 3 (-5) 0 = .xmitOn (selectorOf m) temp (0 : Byte).toNat ∧
      tempByte askingOn.cfg.tempPolicy (BitVec.ofInt 8 temp) = some b14 ∧
      onFrame Config.templateT0 0x30 0xF6 = onFrame askingOn.cfg.template (modeCode askingOn.cfg m) b14) ∧
    (lineMoves (.pseudo (.xmitOn 3 (-5) 0))).map (· ++ []) = some askingOn.hostPlan :=
  ⟨⟨.cool, -5, 0xF6, by decide, by decide, rfl⟩, by decide⟩

/-- A command of each kind the statement names, with its next state. -/
theorem witness_SequencerFrame : (∀ l, Instr.encode ≠ .send l) ∧ exec .encode built = .next (after .encode built) ∧
    exec .buildOff base = .next built ∧ exec (.checksum 8 26) built = .next (after (.checksum 8 26) built) :=
  ⟨fun _ h => Instr.noConfusion h, rfl, rfl, rfl⟩

/-- SEND in a phase other than OFF, LOAD, EMIT and RELEASE, and in EMIT. -/
theorem witness_SendFrame : exec (.send 0) (inPhase .claim) = .next (after (.send 0) (inPhase .claim)) ∧
    (inPhase .claim).txPhase ≠ .off ∧ (inPhase .claim).txPhase ≠ .load ∧ (inPhase .claim).txPhase ≠ .emit ∧
    (inPhase .claim).txPhase ≠ .release := ⟨rfl, by decide, by decide, by decide, by decide⟩

theorem witness_ParametersNeverChange : step asking = .next (advanceEnv (hostStep asking)) := rfl

/-- The invariant with a valid frame; a step that changes the frame. -/
theorem witness_OnlyThreeFrameBytesVary : MachineInv sending ∧ sending.frameValid = true ∧
    (accept 0x4000 built).st = .busy ∧ step (accept 0x4000 built) = .next (advanceEnv (after .encode (accept 0x4000 built))) ∧
    (after .encode (accept 0x4000 built)).frame ≠ (accept 0x4000 built).frame :=
  ⟨sending_meets_invariant, by decide, rfl, rfl, by decide⟩

theorem witness_TracesOnlyGrow : step asking = .next (advanceEnv (hostStep asking)) ∧ ∀ q, asking.hostPlan ≠ .reset :: q :=
  ⟨rfl, by intro q h; cases h⟩

/-- A step that changes a line: SEND 0 takes its claim. -/
theorem witness_TracesOnlyGrow_send :
    step (inPhase .claim) = .next (advanceEnv (after (.send 0) (inPhase .claim))) ∧
    lineAt (after (.send 0) (inPhase .claim)) 0 ≠ lineAt (inPhase .claim) 0 ∧
    (inPhase .claim).st = .busy ∧ decode (inPhase .claim).cmd = .ok (.send 0) :=
  ⟨rfl, by decide, rfl, by decide⟩

/-- Another environment that agrees on the one input CLAIM looks at. -/
theorem witness_InputsAreSampledOnlyWhereNamed :
    exec (.send 0) (inPhase .claim) = .next (after (.send 0) (inPhase .claim)) ∧
    (inputsAt (withEnv (allLines ⟨false, false, false⟩ true) (inPhase .claim)) 0).claimed =
      (inputsAt (inPhase .claim) 0).claimed := ⟨rfl, by decide⟩

/-- A step that responds with a success whose DATA is not 0. -/
theorem witness_ResponseWords : (accept 0x4000 built).st = .busy ∧
    step (accept 0x4000 built) = .next (advanceEnv (after .encode (accept 0x4000 built))) ∧
    (after .encode (accept 0x4000 built)).st = .idle ∧ rspFailed (after .encode (accept 0x4000 built)).rsp = false ∧
    rspData (after .encode (accept 0x4000 built)).rsp ≠ 0 :=
  ⟨rfl, rfl, rfl, by decide, by decide⟩

/-- The same for CHECKSUM over the whole frame. -/
theorem witness_ResponseWords_checksum : (accept 0x301B built).st = .busy ∧
    step (accept 0x301B built) = .next (advanceEnv (after (.checksum 0 27) (accept 0x301B built))) ∧
    (after (.checksum 0 27) (accept 0x301B built)).st = .idle ∧
    rspFailed (after (.checksum 0 27) (accept 0x301B built)).rsp = false ∧
    decode (accept 0x301B built).cmd = .ok (.checksum 0 27) :=
  ⟨rfl, rfl, rfl, by decide, by decide⟩

/-- A SEND that ends Failed. -/
theorem witness_FailureKeepsTheData : (accept 0x5000 built).st = .busy ∧
    step (accept 0x5000 built) = .next (advanceEnv (after (.send 0) (accept 0x5000 built))) ∧
    (after (.send 0) (accept 0x5000 built)).st = .idle ∧ rspFailed (after (.send 0) (accept 0x5000 built)).rsp = true ∧
    decode (accept 0x5000 built).cmd = .ok (.send 0) :=
  ⟨rfl, rfl, rfl, by decide, by decide⟩

theorem witness_SentMeansEmitted : MachineInv allSent ∧ allSent.st = .busy ∧ decode allSent.cmd = .ok (.send 0) ∧
    step allSent = .next (advanceEnv (after (.send 0) allSent)) ∧ (after (.send 0) allSent).st = .idle ∧
    rspFailed (after (.send 0) allSent).rsp = false :=
  ⟨allSent_meets_invariant, rfl, by decide, rfl, rfl, by decide⟩

theorem witness_StepKeepsInvariant : MachineInv allSent ∧ step allSent = .next (advanceEnv (after (.send 0) allSent)) :=
  ⟨allSent_meets_invariant, rfl⟩

/-- LOAD's second clause: the invariant with a valid sequence. -/
theorem witness_SendLoads_valid : MachineInv sending ∧ sending.pseqValid = true := ⟨sending_meets_invariant, rfl⟩

theorem witness_InvariantStateStepsOn : MachineInv allSent := allSent_meets_invariant

/-- The desired states with the power on and off. -/
theorem witness_PseudoInstructionsExpand : (⟨true, .cool, 16⟩ : DesiredState).power = true ∧
    (⟨false, .cool, 16⟩ : DesiredState).power = false := ⟨rfl, rfl⟩

end Sys2Proof.Tests
end

/-! ## Proofs: the command port and the reset table (10_state.md) -/

section

namespace Sys2Proof.Machine

/-! ### HOST's step, one equation per move -/

/-- With no move of HOST the block waits (R166). -/
theorem hostStep_of_no_move {s : State} (h : s.hostPlan = []) : hostStep s = s := by
  simp [hostStep, h]

/-- A presented word is accepted (R27). -/
theorem hostStep_present {s : State} {w : HalfWord} {q : List HostMove} (h : s.hostPlan = .present w :: q) :
    hostStep s = accept w (setHostPlan q s) := by
  simp [hostStep, h]

/-- The next word of an expansion is accepted exactly when CMD_VALID is 1, and dropped otherwise (R73). -/
theorem hostStep_presentIfOk {s : State} {w : HalfWord} {q : List HostMove} (h : s.hostPlan = .presentIfOk w :: q) :
    hostStep s = if cmdValid s then accept w (setHostPlan q s) else setHostPlan q s := by
  simp [hostStep, h]

/-- RESET of the idle block is taken at once (R165). -/
theorem hostStep_reset {s : State} {q : List HostMove} (h : s.hostPlan = .reset :: q) :
    hostStep s = applyReset q s := by
  simp [hostStep, h]

/-- With no plan for ENV its inputs keep their levels (log 3). -/
theorem advanceEnv_of_no_plan {s : State} (h : s.envPlan = []) : advanceEnv s = s := by
  simp [advanceEnv, h]

/-! ### CMD_READY, CMD_VALID and acceptance (R27) -/

theorem cmdReady_iff (s : State) : cmdReady s = true ↔ s.st = .idle := by
  simp [cmdReady]

/-- From IDLE, HOST's move leaves the block BUSY exactly when it presents a command. -/
theorem hostStep_busy_iff_cmdValid {s : State} (h : s.st = .idle) :
    (hostStep s).st = .busy ↔ cmdValid s = true := by
  cases hp : s.hostPlan with
  | nil => simp [hostStep_of_no_move hp, h, cmdValid, hp]
  | cons m q =>
    cases m with
    | present w => simp [hostStep_present hp, cmdValid, hp]
    | presentIfOk w => by_cases hv : cmdValid s = true <;> simp [hostStep_presentIfOk hp, hv, h]
    | reset => simp [hostStep_reset hp, applyReset, cmdValid, hp]

/-- A step goes from IDLE to BUSY exactly when CMD_VALID and CMD_READY are 1. -/
theorem step_accepts_iff {s t : State} (hst : step s = .next t) :
    (s.st = .idle ∧ t.st = .busy) ↔ (cmdValid s = true ∧ cmdReady s = true) := by
  rw [cmdReady_iff, and_comm (a := cmdValid s = true)]
  refine and_congr_right fun hidle => ?_
  rw [step_idle hidle] at hst
  obtain rfl : advanceEnv (hostStep s) = t := by simpa using hst
  rw [advanceEnv_st]
  exact hostStep_busy_iff_cmdValid hidle

/-! ### The port while BUSY (R27) -/

/-- What a step of the block may do to the port: HOST's plan and CMD stay, and either the operation ends with a response or ST, RSP
and RSP_VALID stay as they were. -/
def HoldsPort (s u : State) : Prop :=
  u.hostPlan = s.hostPlan ∧ u.cmd = s.cmd ∧
  ((u.st = .idle ∧ u.rspValid = true) ∨ (u.st = .busy ∧ u.rsp = s.rsp ∧ u.rspValid = s.rspValid))

/-- An operation that ends with a response holds the port if the state it responds from has HOST's plan and CMD unchanged. -/
theorem holdsPort_respond {s v : State} (w : HalfWord) (hplan : v.hostPlan = s.hostPlan) (hcmd : v.cmd = s.cmd) :
    HoldsPort s (respond w v) :=
  ⟨hplan, hcmd, .inl ⟨rfl, rfl⟩⟩

/-- A step inside an operation, which writes no register of the port, holds it. -/
theorem holdsPort_of_unchanged {s u : State} (hbusy : s.st = .busy) (hplan : u.hostPlan = s.hostPlan) (hcmd : u.cmd = s.cmd)
    (hst : u.st = s.st) (hrsp : u.rsp = s.rsp) (hvalid : u.rspValid = s.rspValid) : HoldsPort s u :=
  ⟨hplan, hcmd, .inr ⟨hst.trans hbusy, hrsp, hvalid⟩⟩

/-- ENV's inputs are no part of the port. -/
@[simp] theorem holdsPort_advanceEnv (s u : State) : HoldsPort s (advanceEnv u) ↔ HoldsPort s u := by
  simp [HoldsPort]

/-- Each phase of SEND ends with a response or writes no register of the port. -/
theorem execSend_holdsPort {l : Byte} {s u : State} (hbusy : s.st = .busy) (h : execSend l s = .next u) : HoldsPort s u := by
  rcases execSend_cases h with ⟨_, _, rfl⟩ | ⟨_, _, _, rfl⟩ | ⟨_, _, _, rfl⟩ | ⟨_, _, _, rfl⟩ | ⟨_, rfl⟩ | ⟨_, rfl⟩ |
    ⟨_, rfl⟩ | ⟨_, rfl⟩ | ⟨_, _, rfl⟩ | ⟨_, _, _, rfl⟩ | ⟨_, _, _, _, rfl⟩ | ⟨_, _, rfl⟩ | ⟨_, rfl⟩
  · exact holdsPort_respond _ rfl rfl
  · exact holdsPort_respond _ rfl rfl
  · exact holdsPort_respond _ rfl rfl
  · exact holdsPort_of_unchanged hbusy rfl rfl rfl rfl rfl
  · exact holdsPort_respond _ rfl rfl
  · exact holdsPort_of_unchanged hbusy rfl rfl rfl rfl rfl
  · exact holdsPort_of_unchanged hbusy rfl rfl rfl rfl rfl
  · exact holdsPort_respond _ rfl rfl
  · exact holdsPort_of_unchanged hbusy rfl rfl rfl rfl rfl
  · exact holdsPort_respond _ rfl rfl
  · exact holdsPort_of_unchanged hbusy rfl rfl rfl rfl rfl
  · exact holdsPort_of_unchanged hbusy rfl rfl rfl rfl rfl
  · exact holdsPort_respond _ rfl rfl

/-- A command's meaning holds the port. -/
theorem exec_holdsPort {i : Instr} {s u : State} (hbusy : s.st = .busy) (h : exec i s = .next u) : HoldsPort s u := by
  cases i with
  | buildOff => cases h; exact holdsPort_respond _ rfl rfl
  | buildOn mode temp =>
    change execBuildOn mode temp s = .next u at h
    rcases execBuildOn_cases mode temp s with ⟨_, e⟩ | ⟨_, _, _, e⟩ | ⟨_, _, _, _, e⟩ <;> rw [e] at h <;> cases h <;>
      exact holdsPort_respond _ rfl rfl
  | checksum a b =>
    change execChecksum a b s = .next u at h
    rcases execChecksum_cases a b s with ⟨_, e⟩ | ⟨_, _, e⟩ | ⟨_, _, e⟩ <;> rw [e] at h <;> cases h <;>
      exact holdsPort_respond _ rfl rfl
  | encode =>
    change execEncode s = .next u at h
    rcases execEncode_cases s with ⟨_, e⟩ | ⟨_, e⟩ <;> rw [e] at h <;> cases h <;> exact holdsPort_respond _ rfl rfl
  | send l => exact execSend_holdsPort hbusy h

/-- While BUSY a step holds the port, an illegal word's step too. -/
theorem step_busy_holdsPort {s t : State} (hbusy : s.st = .busy) (h : step s = .next t) : HoldsPort s t := by
  rcases step_cases h with ⟨hidle, _⟩ | ⟨i, u, _, _, hu, rfl⟩ | ⟨e, _, _, rfl⟩
  · simp [hbusy] at hidle
  · rw [holdsPort_advanceEnv]
    exact exec_holdsPort hbusy hu
  · rw [holdsPort_advanceEnv]
    exact holdsPort_respond _ rfl rfl

/-! ### The reset table (R36) -/

/-- The reset table has every value of R36, whatever is handed on. -/
theorem atReset_resetTo (c : Config) (n : Nat) (env : EnvInputs) (plan : List EnvInputs) (q : List HostMove) :
    AtReset (State.resetTo c n env plan q) := by
  simp [AtReset, Line.reset]

/-- ENV's inputs are no part of the reset table. -/
theorem atReset_advanceEnv {s : State} (h : AtReset s) : AtReset (advanceEnv s) := by
  simpa [AtReset] using h

/-- At power-on no command is presented, and the block waits. -/
theorem step_reset : step State.reset = .next State.reset := by
  rw [step_idle rfl, hostStep_of_no_move rfl, advanceEnv_of_no_plan rfl]

/-- A step that takes RESET. -/
theorem step_resetMove {s : State} {q : List HostMove} (hidle : s.st = .idle) (hp : s.hostPlan = .reset :: q) :
    step s = .next (advanceEnv (applyReset q s)) := by
  rw [step_idle hidle, hostStep_reset hp]

end Sys2Proof.Machine

open Sys2Proof.Machine

/-- Settles O7: acceptance by the moves of HOST, and the port while BUSY by what each command can answer. -/
theorem commandPortHandshake : Obligations.CommandPortHandshake := by
  refine ⟨cmdReady_iff, fun _ _ => step_accepts_iff, fun _ _ _ hidle hp => ?_, fun _ _ => step_busy_holdsPort⟩
  rw [step_idle hidle, hostStep_present hp]
  rfl

/-- Settles O9: both states are the reset table's, up to ENV's inputs. -/
theorem resetTable : Obligations.ResetTable :=
  ⟨atReset_resetTo _ _ _ _ _, step_reset, fun _ _ hidle hp =>
    ⟨_, step_resetMove hidle hp, atReset_advanceEnv (atReset_resetTo _ _ _ _ _), advanceEnv_cfg _, advanceEnv_hostPlan _⟩⟩

end

/-! ## Proofs: the decoder, illegal words and response words (30_encoding.md) -/

section

namespace Sys2Proof

/-! ### The fields of a word as numbers (R61) -/

theorem opField_toNat (w : HalfWord) : (opField w).toNat = w.toNat / 4096 := by
  simp [opField, BitVec.extractLsb'_toNat, Nat.shiftRight_eq_div_pow]; omega

theorem modeField_toNat (w : HalfWord) : (modeField w).toNat = w.toNat / 256 % 8 := by
  simp [modeField, BitVec.extractLsb'_toNat, Nat.shiftRight_eq_div_pow]

theorem reservedN_toNat (w : HalfWord) : (reservedN w).toNat = w.toNat % 4096 := by
  simp [reservedN, BitVec.extractLsb'_toNat]

theorem reservedB_toNat (w : HalfWord) : (reservedB w).toNat = w.toNat / 2048 % 2 := by
  simp [reservedB, BitVec.extractLsb'_toNat, Nat.shiftRight_eq_div_pow]

theorem reservedC_toNat (w : HalfWord) : (reservedC w).toNat = w.toNat / 1024 % 4 := by
  simp [reservedC, BitVec.extractLsb'_toNat, Nat.shiftRight_eq_div_pow]

theorem reservedS_toNat (w : HalfWord) : (reservedS w).toNat = w.toNat / 256 % 16 := by
  simp [reservedS, BitVec.extractLsb'_toNat, Nat.shiftRight_eq_div_pow]

/-! ### The decoder, one equation per opcode (R62, R65) -/

/-- The opcodes: the five commands' and the reserved ones (R62). -/
theorem opcode_cases (op : BitVec 4) :
    op = 1 ∨ op = 2 ∨ op = 3 ∨ op = 4 ∨ op = 5 ∨ op = 0 ∨ 6 ≤ op.toNat := by
  revert op; decide

theorem decode_opcode1 {w : HalfWord} (h : opField w = 1) :
    decode w = if reservedN w = 0 then .ok .buildOff else .error .reservedBits := by
  simp [decode, h]

theorem decode_opcode2 {w : HalfWord} (h : opField w = 2) :
    decode w = if reservedB w = 0 then
      if (modeField w).toNat ≤ 4 then .ok (.buildOn (modeField w) (byteField w)) else .error .reservedMode
    else .error .reservedBits := by
  simp [decode, h]

theorem decode_opcode3 {w : HalfWord} (h : opField w = 3) :
    decode w = if reservedC w = 0 then .ok (.checksum (startField w) (stopField w)) else .error .reservedBits := by
  simp [decode, h]

theorem decode_opcode4 {w : HalfWord} (h : opField w = 4) :
    decode w = if reservedN w = 0 then .ok .encode else .error .reservedBits := by
  simp [decode, h]

theorem decode_opcode5 {w : HalfWord} (h : opField w = 5) :
    decode w = if reservedS w = 0 then .ok (.send (byteField w)) else .error .reservedBits := by
  simp [decode, h]

theorem decode_reservedOpcode {w : HalfWord} (h : opField w = 0 ∨ 6 ≤ (opField w).toNat) :
    decode w = .error .reservedOpcode := by
  have hne : ∀ op : BitVec 4, op = 0 ∨ 6 ≤ op.toNat → op ≠ 1 ∧ op ≠ 2 ∧ op ≠ 3 ∧ op ≠ 4 ∧ op ≠ 5 := by decide
  obtain ⟨h1, h2, h3, h4, h5⟩ := hne _ h
  rw [decode, if_neg h1, if_neg h2, if_neg h3, if_neg h4, if_neg h5]

/-- A legality check errs exactly when it fails. -/
theorem exists_error_of_check_iff {c : Prop} [Decidable c] (i : Instr) (e₀ : DecodeError) :
    (∃ e, (if c then Except.ok i else Except.error e₀) = Except.error e) ↔ ¬ c := by
  split <;> simp [*]

/-! ### The opcode map (R62) -/

/-- A mask of OP and the `m` bits below it compares just those: OP is `k` and the `m` reserved bits are zero. -/
theorem and_highMask_eq_iff {m n : Nat} (w : BitVec (4 + m + n)) (k : BitVec 4) :
    w &&& (BitVec.allOnes 4 ++ BitVec.allOnes m ++ 0#n) = k ++ 0#m ++ 0#n ↔
      w.extractLsb' (n + m) 4 = k ∧ w.extractLsb' n m = 0 := by
  have hsplit : w.extractLsb' (n + m) 4 ++ w.extractLsb' n m ++ w.extractLsb' 0 n = w := by
    rw [BitVec.extractLsb'_append_extractLsb'_eq_extractLsb' rfl,
      BitVec.extractLsb'_append_extractLsb'_eq_extractLsb' (Nat.zero_add n).symm, BitVec.extractLsb'_eq_self]
  generalize w.extractLsb' (n + m) 4 = op, w.extractLsb' n m = r, w.extractLsb' 0 n = y at hsplit ⊢
  subst hsplit
  simp only [BitVec.and_append, BitVec.and_allOnes, BitVec.and_zero, BitVec.append_left_inj]
  constructor
  · intro h
    have hop := congrArg (BitVec.extractLsb' m 4) h
    have hr := congrArg (BitVec.extractLsb' 0 m) h
    simpa [BitVec.extractLsb'_append_eq_left, BitVec.extractLsb'_append_eq_right] using And.intro hop hr
  · rintro ⟨rfl, rfl⟩; rfl

theorem meetsBuildOffRow_iff (w : HalfWord) : w &&& 0xFFFF = 0x1000 ↔ opField w = 1 ∧ reservedN w = 0 :=
  and_highMask_eq_iff (m := 12) (n := 0) w 1

theorem meetsBuildOnRow_iff (w : HalfWord) : w &&& 0xF800 = 0x2000 ↔ opField w = 2 ∧ reservedB w = 0 :=
  and_highMask_eq_iff (m := 1) (n := 11) w 2

theorem meetsChecksumRow_iff (w : HalfWord) : w &&& 0xFC00 = 0x3000 ↔ opField w = 3 ∧ reservedC w = 0 :=
  and_highMask_eq_iff (m := 2) (n := 10) w 3

theorem meetsEncodeRow_iff (w : HalfWord) : w &&& 0xFFFF = 0x4000 ↔ opField w = 4 ∧ reservedN w = 0 :=
  and_highMask_eq_iff (m := 12) (n := 0) w 4

theorem meetsSendRow_iff (w : HalfWord) : w &&& 0xFF00 = 0x5000 ↔ opField w = 5 ∧ reservedS w = 0 :=
  and_highMask_eq_iff (m := 4) (n := 8) w 5

/-- A legal word meets its command's row. -/
theorem decode_ok_meets_row {w : HalfWord} {i : Instr} (h : decode w = .ok i) :
    w &&& (opcodeRow i).mask = (opcodeRow i).pattern := by
  rcases opcode_cases (opField w) with hop | hop | hop | hop | hop | hop
  · rw [decode_opcode1 hop] at h
    split at h <;> cases h
    next hr => exact (meetsBuildOffRow_iff w).2 ⟨hop, hr⟩
  · rw [decode_opcode2 hop] at h
    split at h
    next hr =>
      split at h <;> cases h
      exact (meetsBuildOnRow_iff w).2 ⟨hop, hr⟩
    next => cases h
  · rw [decode_opcode3 hop] at h
    split at h <;> cases h
    next hr => exact (meetsChecksumRow_iff w).2 ⟨hop, hr⟩
  · rw [decode_opcode4 hop] at h
    split at h <;> cases h
    next hr => exact (meetsEncodeRow_iff w).2 ⟨hop, hr⟩
  · rw [decode_opcode5 hop] at h
    split at h <;> cases h
    next hr => exact (meetsSendRow_iff w).2 ⟨hop, hr⟩
  · rw [decode_reservedOpcode hop] at h
    cases h

/-- A word that meets a row is that row's command or names a mode that does not exist. -/
theorem decode_of_meets_row {w : HalfWord} {r : OpcodeRow} (hr : r ∈ opcodeRows) (h : w &&& r.mask = r.pattern) :
    (∃ i, decode w = .ok i ∧ opcodeRow i = r) ∨ decode w = .error .reservedMode := by
  simp only [opcodeRows, List.mem_cons, List.not_mem_nil, or_false] at hr
  rcases hr with rfl | rfl | rfl | rfl | rfl
  · obtain ⟨hop, hz⟩ := (meetsBuildOffRow_iff w).1 h
    exact .inl ⟨_, (decode_opcode1 hop).trans (if_pos hz), rfl⟩
  · obtain ⟨hop, hz⟩ := (meetsBuildOnRow_iff w).1 h
    rw [decode_opcode2 hop, if_pos hz]
    split
    · exact .inl ⟨_, rfl, rfl⟩
    · exact .inr rfl
  · obtain ⟨hop, hz⟩ := (meetsChecksumRow_iff w).1 h
    exact .inl ⟨_, (decode_opcode3 hop).trans (if_pos hz), rfl⟩
  · obtain ⟨hop, hz⟩ := (meetsEncodeRow_iff w).1 h
    exact .inl ⟨_, (decode_opcode4 hop).trans (if_pos hz), rfl⟩
  · obtain ⟨hop, hz⟩ := (meetsSendRow_iff w).1 h
    exact .inl ⟨_, (decode_opcode5 hop).trans (if_pos hz), rfl⟩

/-- Every row's mask keeps OP, so a word that meets a row has the row's opcode. -/
theorem opField_of_meets_row {w : HalfWord} {r : OpcodeRow} (hr : r ∈ opcodeRows) (h : w &&& r.mask = r.pattern) :
    opField w = opField r.pattern := by
  have hmask : opField r.mask = BitVec.allOnes 4 := (by decide : ∀ r ∈ opcodeRows, opField r.mask = BitVec.allOnes 4) r hr
  rw [← h, opField, opField, BitVec.extractLsb'_and, ← opField, ← opField, hmask, BitVec.and_allOnes]

/-- The rows have five different opcodes. -/
theorem opcodeRows_opField_inj : ∀ r ∈ opcodeRows, ∀ r' ∈ opcodeRows, opField r.pattern = opField r'.pattern → r = r' := by
  decide

end Sys2Proof

namespace Sys2Proof.Machine

/-! ### Illegal words (R65) -/

/-- R65's list, read off the word's fields. -/
theorem illegalWord_iff_fields (w : HalfWord) : IllegalWord w ↔
    (opField w = 0 ∨ 6 ≤ (opField w).toNat) ∨
    ((opField w = 1 ∨ opField w = 4) ∧ reservedN w ≠ 0) ∨
    (opField w = 2 ∧ reservedB w ≠ 0) ∨
    (opField w = 2 ∧ 5 ≤ (modeField w).toNat) ∨
    (opField w = 3 ∧ reservedC w ≠ 0) ∨
    (opField w = 5 ∧ reservedS w ≠ 0) := by
  have hB : w.toNat % 4096 / 2048 = w.toNat / 2048 % 2 := by omega
  have hC : w.toNat % 4096 / 1024 = w.toNat / 1024 % 4 := by omega
  have hS : w.toNat % 4096 / 256 = w.toNat / 256 % 16 := by omega
  have hMode : w.toNat / 256 % 16 % 8 = w.toNat / 256 % 8 := by omega
  simp [IllegalWord, ← BitVec.toNat_inj, opField_toNat, modeField_toNat, reservedN_toNat, reservedB_toNat, reservedC_toNat,
    reservedS_toNat, hB, hC, hS, hMode]

/-- The decoder rejects exactly the words of R65's list. -/
theorem illegalWord_iff_decode_error (w : HalfWord) : IllegalWord w ↔ ∃ e, decode w = .error e := by
  rw [illegalWord_iff_fields]
  rcases opcode_cases (opField w) with h | h | h | h | h | h
  · rw [decode_opcode1 h, exists_error_of_check_iff]
    simp [h]
  · rw [decode_opcode2 h]
    split
    next hr =>
      rw [exists_error_of_check_iff]
      simp [h, hr, Nat.lt_iff_add_one_le]
    next hr => simpa [h] using Or.inl hr
  · rw [decode_opcode3 h, exists_error_of_check_iff]
    simp [h]
  · rw [decode_opcode4 h, exists_error_of_check_iff]
    simp [h]
  · rw [decode_opcode5 h, exists_error_of_check_iff]
    simp [h]
  · exact iff_of_true (.inl h) ⟨_, decode_reservedOpcode h⟩

/-- An illegal word's one step writes ST and the response, nothing else. -/
theorem endsIllegal_of_decode_error {w : HalfWord} {e : DecodeError} (h : decode w = .error e) : EndsIllegal w := by
  rintro s rfl hbusy
  exact step_illegal hbusy h

/-! ### Response words (R68) -/

/-- The DATA of a command's success (R68). -/
def successData (s : State) : Instr → Byte
  | .checksum a b => cksum s.frame a.toNat b.toNat
  | .encode => 220
  | _ => 0

theorem successData_ne_zero {s : State} {i : Instr} (h : successData s i ≠ 0) : (∃ a b, i = .checksum a b) ∨ i = .encode := by
  cases i with
  | checksum a b => exact .inl ⟨a, b, rfl⟩
  | encode => exact .inr rfl
  | buildOff => exact absurd rfl h
  | buildOn mode temp => exact absurd rfl h
  | send l => exact absurd rfl h

/-- RSP is the response word of a failure, or of the command's success. -/
def AnswersTo (s : State) (i : Instr) (u : State) : Prop :=
  (∃ c, u.rsp = failedWord c) ∨ u.rsp = okWord (successData s i)

/-- A step of SEND goes on or ends with one of its responses. -/
theorem execSend_answers {l : Byte} {s u : State} (h : execSend l s = .next u) :
    u.st = s.st ∨ AnswersTo s (.send l) u := by
  rcases execSend_cases h with ⟨_, _, rfl⟩ | ⟨_, _, _, rfl⟩ | ⟨_, _, _, rfl⟩ | ⟨_, _, _, rfl⟩ | ⟨_, rfl⟩ | ⟨_, rfl⟩ |
    ⟨_, rfl⟩ | ⟨_, rfl⟩ | ⟨_, _, rfl⟩ | ⟨_, _, _, rfl⟩ | ⟨_, _, _, _, rfl⟩ | ⟨_, _, rfl⟩ | ⟨_, rfl⟩
  · exact .inr (.inl ⟨_, rfl⟩)
  · exact .inr (.inl ⟨_, rfl⟩)
  · exact .inr (.inl ⟨_, rfl⟩)
  · exact .inl rfl
  · exact .inr (.inl ⟨_, rfl⟩)
  · exact .inl rfl
  · exact .inl rfl
  · exact .inr (.inl ⟨_, rfl⟩)
  · exact .inl rfl
  · exact .inr (.inl ⟨_, rfl⟩)
  · exact .inl rfl
  · exact .inl rfl
  · exact .inr (.inr rfl)

/-- A command goes on or ends with one of its responses. -/
theorem exec_answers {i : Instr} {s u : State} (h : exec i s = .next u) : u.st = s.st ∨ AnswersTo s i u := by
  cases i with
  | buildOff => cases h; exact .inr (.inr rfl)
  | buildOn mode temp =>
    change execBuildOn mode temp s = .next u at h
    rcases execBuildOn_cases mode temp s with ⟨_, e⟩ | ⟨_, _, _, e⟩ | ⟨_, _, _, _, e⟩ <;> rw [e] at h <;> cases h
    · exact .inr (.inl ⟨_, rfl⟩)
    · exact .inr (.inl ⟨_, rfl⟩)
    · exact .inr (.inr rfl)
  | checksum a b =>
    change execChecksum a b s = .next u at h
    rcases execChecksum_cases a b s with ⟨_, e⟩ | ⟨_, _, e⟩ | ⟨_, _, e⟩ <;> rw [e] at h <;> cases h
    · exact .inr (.inl ⟨_, rfl⟩)
    · exact .inr (.inl ⟨_, rfl⟩)
    · exact .inr (.inr rfl)
  | encode =>
    change execEncode s = .next u at h
    rcases execEncode_cases s with ⟨_, e⟩ | ⟨_, e⟩ <;> rw [e] at h <;> cases h
    · exact .inr (.inl ⟨_, rfl⟩)
    · exact .inr (.inr rfl)
  | send l => exact execSend_answers h

/-- A step that ends an operation leaves a failure's response word, or the one of the success of the command in CMD. -/
theorem step_response {s t : State} (hbusy : s.st = .busy) (hstep : step s = .next t) (hidle : t.st = .idle) :
    (∃ c, t.rsp = failedWord c) ∨ ∃ i, decode s.cmd = .ok i ∧ t.rsp = okWord (successData s i) := by
  rcases step_cases hstep with ⟨h, _⟩ | ⟨i, u, _, hd, hu, rfl⟩ | ⟨e, _, _, rfl⟩
  · simp [hbusy] at h
  · rw [advanceEnv_st] at hidle
    rw [advanceEnv_rsp]
    rcases exec_answers hu with hst | hfail | hok
    · simp [hst, hbusy] at hidle
    · exact .inl hfail
    · exact .inr ⟨i, hd, hok⟩
  · exact .inl ⟨.illegalCmd, advanceEnv_rsp _⟩

end Sys2Proof.Machine

open Sys2Proof Sys2Proof.Machine

/-- Settles O4: a row's mask and match compare OP and the reserved bits, which is what the decoder looks at. -/
theorem opcodeMapHolds : Obligations.OpcodeMapHolds := by
  refine ⟨⟨rfl, fun _ _ => rfl, fun _ _ => rfl, rfl, fun _ => rfl, rfl⟩, fun _ _ => decode_ok_meets_row,
    fun _ _ => decode_of_meets_row, fun w r r' hr hr' hm hm' => ?_, fun w hd r hr hm => ?_⟩
  · exact opcodeRows_opField_inj r hr r' hr' ((opField_of_meets_row hr hm).symm.trans (opField_of_meets_row hr' hm'))
  · rcases decode_of_meets_row hr hm with ⟨i, hok, _⟩ | hmode
    · simp [hd] at hok
    · simp [hd] at hmode

/-- Settles O5: the decoder's errors are R65's list; acceptance is the port's for any word (O7), and the step of an illegal word is
`illegalCommand`. -/
theorem illegalWordsFail : Obligations.IllegalWordsFail := by
  obtain ⟨_, _, accepts, _⟩ := commandPortHandshake
  refine ⟨illegalWord_iff_decode_error, (illegalWord_iff_decode_error 0).2 ⟨.reservedOpcode, by decide⟩,
    fun s w q _ => accepts s w q, fun w hw => ?_⟩
  obtain ⟨e, he⟩ := (illegalWord_iff_decode_error w).1 hw
  exact endsIllegal_of_decode_error he

/-- Settles O38: by what a step that ends an operation can leave in RSP. -/
theorem responseWords : Obligations.ResponseWords := by
  intro s t hbusy hstep hidle
  rcases step_response hbusy hstep hidle with ⟨c, hc⟩ | ⟨i, hd, hok⟩
  · rw [hc]
    refine ⟨failedWord_legal c, ?_, ?_, ?_⟩ <;> simp
  · rw [hok, rspData_okWord, hd]
    refine ⟨okWord_legal _, fun _ hne => ?_, ?_, ?_⟩
    · rcases successData_ne_zero hne with ⟨a, b, rfl⟩ | rfl
      · exact .inl ⟨a, b, rfl⟩
      · exact .inr rfl
    · rintro a b - ⟨⟩; rfl
    · rintro - ⟨⟩; rfl

end

/-! ## Proofs: the Command Frame Builder (40_frame_builder.md) -/

section

namespace Sys2Proof.Machine

/-! ### The temperature byte (R83) -/

theorem tempByte_passthrough (temp : Byte) : tempByte .passthrough temp = some (temp <<< 1) := rfl

theorem tempByte_clamp (temp : Byte) : tempByte .clamp temp = some (doubled (max 16 (min 30 temp.toInt))) := by
  simp only [tempByte, tempMin, tempMax]
  congr 2
  omega

/-- REJECT has no byte for a temperature outside 16..30. -/
theorem tempByte_reject_outside {temp : Byte} (h : temp.toInt < 16 ∨ 30 < temp.toInt) : tempByte .reject temp = none :=
  if_pos h

theorem tempByte_reject_inside {temp : Byte} (hlo : 16 ≤ temp.toInt) (hhi : temp.toInt ≤ 30) :
    tempByte .reject temp = some (doubled temp.toInt) :=
  if_neg (not_or.2 ⟨not_lt.2 hlo, not_lt.2 hhi⟩)

/-- Shifting the field left doubles its signed reading modulo 256. -/
theorem shiftLeft_one_eq_doubled (temp : Byte) : temp <<< 1 = doubled temp.toInt := by
  rw [doubled, BitVec.ofInt_mul, BitVec.ofInt_toInt, BitVec.shiftLeft_eq_mul_twoPow, BitVec.mul_comm]
  rfl

/-- In 16..30 the policies agree. -/
theorem tempByte_of_inside (p : TempPolicy) {temp : Byte} (hlo : 16 ≤ temp.toInt) (hhi : temp.toInt ≤ 30) :
    tempByte p temp = some (doubled temp.toInt) := by
  cases p with
  | passthrough => rw [tempByte_passthrough, shiftLeft_one_eq_doubled]
  | clamp => rw [tempByte_clamp, min_eq_right hhi, max_eq_right hlo]
  | reject => exact tempByte_reject_inside hlo hhi

/-- Temperatures of 0 to 127 degrees double without wrapping. -/
theorem doubled_toNat {t : Int} (hlo : 0 ≤ t) (hhi : t < 128) : ((doubled t).toNat : Int) = 2 * t := by
  rw [doubled, BitVec.toNat_ofInt]
  omega

/-! ### The mode selector (R19, R20) -/

@[simp] theorem codeTable_length (c : Config) : (codeTable c).length = 5 := rfl

/-- The table of codes, read at a selector, is the code of the mode the selector names. -/
theorem codeTable_getElem? (c : Config) (sel : BitVec 3) : (codeTable c)[sel.toNat]? = (modeOf sel).map (modeCode c) := by
  unfold modeOf
  generalize sel.toNat = n
  match n with
  | 0 | 1 | 2 | 3 | 4 | _ + 5 => rfl

/-- Selectors 5 to 7 name no mode. -/
theorem modeOf_eq_none {sel : BitVec 3} (h : 5 ≤ sel.toNat) : modeOf sel = none := by
  have hread := codeTable_getElem? Config.cfgT sel
  rwa [List.getElem?_eq_none h, eq_comm, Option.map_eq_none_iff] at hread

/-- A selector below 5 names the mode whose code stands at its place. -/
theorem exists_modeOf_eq_some (c : Config) {sel : BitVec 3} (h : sel.toNat < 5) :
    ∃ m, modeOf sel = some m ∧ modeCode c m = (codeTable c)[sel.toNat]'(by simpa using h) := by
  have hread := codeTable_getElem? c sel
  rwa [List.getElem?_eq_getElem (by simpa using h), eq_comm, Option.map_eq_some_iff] at hread

/-! ### BUILD_ON, one equation per outcome (R82) -/

theorem execBuildOn_of_no_mode {mode : BitVec 3} (temp : Byte) (s : State) (hm : modeOf mode = none) :
    execBuildOn mode temp s = .next (raiseFailed .illegalCmd s) := by
  simp [execBuildOn, hm]

theorem execBuildOn_of_no_tempByte {mode : BitVec 3} {m : Mode} {temp : Byte} {s : State} (hm : modeOf mode = some m)
    (hb : tempByte s.cfg.tempPolicy temp = none) : execBuildOn mode temp s = .next (raiseFailed .tempRange s) := by
  simp [execBuildOn, hm, hb]

theorem execBuildOn_of_tempByte {mode : BitVec 3} {m : Mode} {temp b14 : Byte} {s : State} (hm : modeOf mode = some m)
    (hb : tempByte s.cfg.tempPolicy temp = some b14) :
    execBuildOn mode temp s = .next (finishBuild (onFrame s.cfg.template (modeCode s.cfg m) b14) s) := by
  simp [execBuildOn, hm, hb]

/-! ### BUILD_ON's word (R61) and byte 13 (R82) -/

/-- BUILD_ON's fields, concatenated, are its opcode and its shifted operands ORed. -/
theorem encode_buildOn (mode : BitVec 3) (temp : Byte) :
    encode (.buildOn mode temp) = 0x2000 ||| (mode.setWidth 16 <<< 8) ||| temp.setWidth 16 := by
  have hfields := BitVec.setWidth_append_append_eq_shiftLeft_setWidth_or
    (b := 2#4 ++ 0#1) (b' := mode) (b'' := temp) (w''' := 16)
  rwa [BitVec.setWidth_eq] at hfields

/-- R20: a mode code has no bit in its low nibble. -/
theorem codeTable_lowNibble {c : Config} (hc : c.WellFormed) : ∀ code ∈ codeTable c, code &&& 0x0F = 0 := by
  obtain ⟨-, hauto, hfan, hdry, -⟩ := hc
  simp only [codeTable, List.forall_mem_cons]
  exact ⟨hauto, hfan, hdry, by decide, by decide, List.forall_mem_nil _⟩

theorem getLsbD_of_lowNibble {code : Byte} (h : code &&& 0x0F = 0) {j : Nat} (hj : j < 4) : code.getLsbD j = false := by
  have hmask : ∀ j < 4, (0x0F : Byte).getLsbD j = true := by decide
  have hbit : (code &&& 0x0F).getLsbD j = false := by rw [h, BitVec.ofNat_eq_ofNat, BitVec.getLsbD_zero]
  rwa [BitVec.getLsbD_and, hmask j hj, Bool.and_true] at hbit

/-- Past bit 0 the OR with 0x01 changes nothing. -/
theorem getLsbD_byte13 (t code : Byte) {j : Nat} (hj : 1 ≤ j) :
    (t ||| 0x01 ||| code).getLsbD j = (t.getLsbD j || code.getLsbD j) := by
  have hone : (0x01 : Byte).getLsbD j = false := by simp [Nat.one_le_iff_ne_zero.1 hj]
  rw [BitVec.getLsbD_or, BitVec.getLsbD_or, hone, Bool.or_false]

end Sys2Proof.Machine

open Sys2Proof Sys2Proof.Machine

/-- Settles O12: each outcome by what its selector names and what the policy gives; byte 13 by the mode codes' empty low nibble. -/
theorem buildOnBuildsTheFrame : Obligations.BuildOnBuildsTheFrame := by
  refine ⟨encode_buildOn, fun s mode temp b14 h hb => ?built, fun s mode temp h => ?noMode,
    fun s mode temp h hp hout => ?tempRange, fun w hop hr => ?illegal,
    fun c code hc hcode => ⟨?bit0, fun j hlo hhi => ?kept, fun j hlo _ => ?nibble⟩⟩
  case built =>
    obtain ⟨m, hm, hcode⟩ := exists_modeOf_eq_some s.cfg h
    rw [← hcode]
    exact execBuildOn_of_tempByte hm hb
  case noMode => exact execBuildOn_of_no_mode temp s (modeOf_eq_none h)
  case tempRange =>
    obtain ⟨m, hm, _⟩ := exists_modeOf_eq_some s.cfg h
    exact execBuildOn_of_no_tempByte hm (hp ▸ tempByte_reject_outside hout)
  case illegal => exact endsIllegal_of_decode_error ((decode_opcode2 hop).trans (if_neg hr))
  case bit0 => simp
  case kept =>
    rw [getLsbD_byte13 _ _ hlo, getLsbD_of_lowNibble (codeTable_lowNibble hc code hcode) (by omega), Bool.or_false]
  case nibble => exact getLsbD_byte13 _ _ (by omega)

/-- Settles O11: BUILD_OFF writes the template whatever the state, and its opcode's other words are the decoder's errors. -/
theorem buildOffCopiesTemplate : Obligations.BuildOffCopiesTemplate := by
  refine ⟨rfl, execBuildOff_eq, fun s t u ht hu => ?_, fun w hop hr => ?_⟩
  · cases ht
    cases hu
    rfl
  · exact endsIllegal_of_decode_error ((decode_opcode1 hop).trans (if_neg hr))

/-- Settles O13: each policy's byte is a doubled temperature, and 16..30 double without wrapping. -/
theorem temperatureBytePolicies : Obligations.TemperatureBytePolicies := by
  refine ⟨fun temp => ⟨_, tempByte_passthrough temp, ?_⟩, fun temp => ⟨_, tempByte_clamp temp, ?_⟩,
    fun _ => tempByte_reject_outside, fun p temp hlo hhi => ⟨_, tempByte_of_inside p hlo hhi, ?_⟩⟩
  · rw [BitVec.toNat_shiftLeft, Nat.shiftLeft_eq, Nat.mul_comm]
  · exact doubled_toNat (by omega) (by omega)
  · exact doubled_toNat (by omega) (by omega)

end

/-! ## Proofs: the Checksum Calculator (41_checksum.md) -/

section

namespace Sys2Proof.Machine

/-! ### CHECKSUM, one equation per outcome (R91) -/

theorem badRange_iff (a b : BitVec 5) : badRange a b = true ↔ b.toNat < a.toNat ∨ 27 < b.toNat := by
  simp [badRange]

/-- Without a frame the range is not looked at. -/
theorem execChecksum_of_no_frame (a b : BitVec 5) {s : State} (hf : s.frameValid = false) :
    execChecksum a b s = .next (raiseFailed .noFrame s) := by
  simp [execChecksum, hf]

theorem execChecksum_of_badRange {a b : BitVec 5} {s : State} (hf : s.frameValid = true) (hr : badRange a b = true) :
    execChecksum a b s = .next (raiseFailed .badRange s) := by
  simp [execChecksum, hf, hr]

theorem execChecksum_of_range {a b : BitVec 5} {s : State} (hf : s.frameValid = true) (hab : a.toNat ≤ b.toNat)
    (hb : b.toNat ≤ 27) : execChecksum a b s = .next (respondOk (cksum s.frame a.toNat b.toNat) s) := by
  have hr : badRange a b ≠ true := (badRange_iff a b).not.2 (not_or.2 ⟨not_lt.2 hab, not_lt.2 hb⟩)
  simp [execChecksum, hf, hr]

/-! ### CHECKSUM's words: its own (R61) and its response's (R68, R90) -/

/-- CHECKSUM's fields, concatenated, are its opcode and its shifted operands ORed. -/
theorem encode_checksum (a b : BitVec 5) :
    encode (.checksum a b) = 0x3000 ||| (a.setWidth 16 <<< 5) ||| b.setWidth 16 := by
  have hfields := BitVec.setWidth_append_append_eq_shiftLeft_setWidth_or
    (b := 3#4 ++ 0#2) (b' := a) (b'' := b) (w''' := 16)
  rwa [BitVec.setWidth_eq] at hfields

/-- A legal range's response carries the sum of its bytes modulo 256. -/
theorem okWord_cksum (f : FrameFile) {a b : Nat} (h : b ≤ 27) :
    okWord (cksum f a b) = BitVec.ofNat 16 (frameSum f a b % 256) := by
  rw [okWord_eq, cksum_eq f a b h, BitVec.toNat_ofNat]

end Sys2Proof.Machine

open Sys2Proof Sys2Proof.Machine

/-- Settles O16: one equation per outcome of CHECKSUM, and its opcode's other words are the decoder's errors. -/
theorem checksumOfTheRange : Obligations.ChecksumOfTheRange := by
  refine ⟨encode_checksum, fun s a b hf hab hb => ?sum, fun s a b hf => execChecksum_of_no_frame a b hf,
    fun s a b hf hr => execChecksum_of_badRange hf ((badRange_iff a b).2 hr), fun w hop hr => ?illegal⟩
  case sum =>
    rw [← okWord_cksum s.frame hb]
    exact execChecksum_of_range hf hab hb
  case illegal => exact endsIllegal_of_decode_error ((decode_opcode3 hop).trans (if_neg hr))

end

/-! ## Proofs: the Pulse Encoder (42_pulse_encoder.md) -/

section

namespace Sys2Proof.Machine

/-! ### The sequence is R49's picture -/

/-- The checksum byte's entry `j` is bit `j` of the sum of bytes 8 to 25: bits 0 to 7 do not see the wrap at 256. -/
theorem bitsOf_cksum_getElem? (c : Config) (f : FrameFile) {j : Nat} (hj : j < 8) :
    (bitsOf c (cksum f 8 26))[j]? = some (if (frameSum f 8 26).testBit j then c.tOne else c.tZero) := by
  rw [bitsOf_getElem c _ j hj, cksum_eq f 8 26 (by decide), BitVec.getLsbD_ofNat]
  simp [sym, hj]

/-- Entry `k` of what the seven steps append is the one R49 draws at index `k`: one case per step. -/
theorem sequenceOf_getElem? (c : Config) (f : FrameFile) {k : Nat} (hk : k < 220) :
    (sequenceOf c f)[k]? = some (layoutEntry c f k) := by
  have hsub1 : (bytesOf c f 0 8).length = 64 := bytesOf_length c f 0 8 (by decide)
  have hsub2 : (bytesOf c f 8 26).length = 144 := bytesOf_length c f 8 26 (by decide)
  have hstep : k = 0 ∨ (1 ≤ k ∧ k ≤ 64) ∨ k = 65 ∨ k = 66 ∨ (67 ≤ k ∧ k ≤ 210) ∨ (211 ≤ k ∧ k ≤ 218) ∨ k = 219 := by
    omega
  simp only [sequenceOf, layoutEntry, List.getElem?_append, List.length_append, List.length_singleton, hsub1, hsub2,
    bitsOf_length]
  rcases hstep with rfl | ⟨_, _⟩ | rfl | rfl | ⟨_, _⟩ | ⟨_, _⟩ | rfl
  · simp
  · simp (disch := omega) only [if_pos, if_neg]
    rw [bytesOf_getElem c f 0 8 _ (by decide) (by omega), Nat.zero_add]
  · simp
  · simp
  · simp (disch := omega) only [if_pos, if_neg]
    exact bytesOf_getElem c f 8 26 _ (by decide) (by omega)
  · simp (disch := omega) only [if_pos, if_neg]
    exact bitsOf_cksum_getElem? c f (by omega)
  · simp [tEnd]

theorem toList_layout (c : Config) (f : FrameFile) : (layout c f).toList = sequenceOf c f := by
  refine List.ext_getElem? fun k => ?_
  by_cases hk : k < 220
  · rw [sequenceOf_getElem? c f hk]
    simp [layout, hk]
  · rw [List.getElem?_eq_none (by simpa using hk), List.getElem?_eq_none (by simpa using hk)]

/-- Every place of PSEQ is written, so nothing of an older sequence shows. -/
theorem overlay_sequenceOf (v : EntryStore) (c : Config) (f : FrameFile) : overlay v (sequenceOf c f) = layout c f :=
  store_ext ((overlay_full v _ (sequenceOf_length c f)).trans (toList_layout c f).symm)

/-! ### ENCODE, one equation per outcome (R101) -/

theorem execEncode_of_no_frame {s : State} (hf : s.frameValid = false) : execEncode s = .next (raiseFailed .noFrame s) := by
  simp [execEncode, hf]

theorem execEncode_of_frame {s : State} (hf : s.frameValid = true) :
    execEncode s = .next { s with
      pseq := layout s.cfg s.frame, pseqLen := 220, pseqValid := true, frame := withChecksum s.frame
      rsp := okWord 220, rspValid := true, st := .idle } := by
  rw [execEncode, if_pos hf, ← overlay_sequenceOf s.pseq]
  simp only [writeSequence, sequenceOf_length]
  rfl

/-! ### What ENCODE reads (R106, R108) -/

/-- The configurations' timing constants are the same (R23). -/
def SameTiming (c c' : Config) : Prop :=
  c.tHdr = c'.tHdr ∧ c.tZero = c'.tZero ∧ c.tOne = c'.tOne ∧ c.tPause = c'.tPause ∧ c.tEndActive = c'.tEndActive

theorem sequenceOf_of_sameTiming {c c' : Config} (h : SameTiming c c') (f : FrameFile) :
    sequenceOf c f = sequenceOf c' f := by
  obtain ⟨hhdr, hzero, hone, hpause, hend⟩ := h
  have hbits : bitsOf c = bitsOf c' := by funext b; simp only [bitsOf, sym, hzero, hone]
  simp only [sequenceOf, bytesOf, tEnd, hbits, hhdr, hpause, hend]

/-- Frames with the same bytes 0 to 25 differ in byte 26 alone. -/
theorem eq_set26_of_agree {f f' : FrameFile} (h : ∀ (i : Nat) (_ : i < 26), f[i] = f'[i]) : f = f'.set 26 f[26] := by
  refine Vector.ext fun i hi => ?_
  by_cases hi26 : i < 26
  · rw [Vector.getElem_set_ne _ _ (by omega), h i hi26]
  · obtain rfl : i = 26 := by omega
    rw [Vector.getElem_set_self]

/-- The checksum's range ends before byte 26, which is overwritten. -/
theorem withChecksum_set26 (f : FrameFile) (x : Byte) : withChecksum (f.set 26 x) = withChecksum f := by
  simp [withChecksum, cksum, frameRange_set]

theorem layout_of_agree {c c' : Config} {f f' : FrameFile} (hc : SameTiming c c')
    (hf : ∀ (i : Nat) (_ : i < 26), f[i] = f'[i]) : layout c f = layout c' f' := by
  apply store_ext
  rw [toList_layout, toList_layout, eq_set26_of_agree hf, sequenceOf_set26]
  exact sequenceOf_of_sameTiming hc f'

theorem withChecksum_of_agree {f f' : FrameFile} (hf : ∀ (i : Nat) (_ : i < 26), f[i] = f'[i]) :
    withChecksum f = withChecksum f' := by
  rw [eq_set26_of_agree hf, withChecksum_set26]

/-- ENCODE keeps the bytes it reads. -/
theorem withChecksum_getElem_of_lt (f : FrameFile) {i : Nat} (h : i < 26) : (withChecksum f)[i] = f[i] :=
  Vector.getElem_set_ne _ _ (by omega)

end Sys2Proof.Machine

open Sys2Proof Sys2Proof.Machine

/-- Settles O19: one equation per outcome of ENCODE, and its opcode's other words are the decoder's errors. -/
theorem encodeWritesTheLayout : Obligations.EncodeWritesTheLayout := by
  refine ⟨rfl, fun s hf => ?sequence, fun s hf => execEncode_of_no_frame hf, fun w hop hr => ?illegal⟩
  case sequence =>
    rw [← cksum_eq s.frame 8 26 (by decide)]
    exact execEncode_of_frame hf
  case illegal => exact endsIllegal_of_decode_error ((decode_opcode4 hop).trans (if_neg hr))

/-- Settles O21: the sequence and the frame ENCODE leaves are functions of what the two states agree on; a second ENCODE is the case
of a state and the one ENCODE leaves. -/
theorem encodeIsDeterministic : Obligations.EncodeIsDeterministic := by
  refine ⟨fun s s' hhdr hzero hone hpause hend hf hf' hagree => ?_, fun s t u hf ht hu => ?_⟩
  · exact ⟨_, _, execEncode_of_frame hf, execEncode_of_frame hf',
      layout_of_agree ⟨hhdr, hzero, hone, hpause, hend⟩ hagree, withChecksum_of_agree hagree, fun _ => rfl⟩
  · obtain rfl := Host.Outcome.next.inj (ht.symm.trans (execEncode_of_frame hf))
    obtain rfl := Host.Outcome.next.inj (hu.symm.trans (execEncode_of_frame hf))
    exact ⟨layout_of_agree ⟨rfl, rfl, rfl, rfl, rfl⟩ fun _ => withChecksum_getElem_of_lt s.frame,
      withChecksum_of_agree fun _ => withChecksum_getElem_of_lt s.frame⟩

end

/-! ## Proofs: the Transmission Driver's CONFIGURE, LOAD and RELEASE (43_transmission.md) -/

section

namespace Sys2Proof.Machine

/-! ### SEND, one equation per outcome of a phase (R121, R122, R125) -/

theorem execSend_configure_of_carrier {l : Byte} {s : State} (hp : s.txPhase = .configure)
    (hc : (inputsAt s l).carrierOk = true) : execSend l s = .next (setPhase .load (configureLine l s)) := by
  simp only [execSend, hp, sendConfigure, hc, if_true]

theorem execSend_configure_of_no_carrier {l : Byte} {s : State} (hp : s.txPhase = .configure)
    (hc : (inputsAt s l).carrierOk = false) :
    execSend l s = .next (raiseFailed .cfgUnsupportedCarrier (releaseLine l s)) := by
  simp only [execSend, hp, sendConfigure, hc, Bool.false_eq_true, if_false]

theorem execSend_load {l : Byte} {s : State} (hp : s.txPhase = .load) (hlen : s.pseqLen.toNat ≤ 220) :
    execSend l s = .next (setPhase .emit (loadTxbuf s)) := by
  simp only [execSend, hp, sendLoad, hlen, if_true]

theorem execSend_release {l : Byte} {s : State} (hp : s.txPhase = .release) :
    execSend l s = .next (sendRelease l s) := by
  simp only [execSend, hp]

/-! ### The lines after a release and after the configuration -/

/-- From `s` to `t` line `l` loses its claim and rests at LOW, its trace grown by RELEASE; its configuration and the other lines stay
(R129). -/
def LineReleased (l : Byte) (s t : State) : Prop :=
  (lineAt t l).owned = false ∧ (lineAt t l).lineCfg = (lineAt s l).lineCfg ∧ (lineAt t l).level = .low ∧
  (lineAt t l).trace = (lineAt s l).trace ++ [.release] ∧ (∀ m, m ≠ l → lineAt t m = lineAt s m)

/-- What follows the release in the same step, a response or the flags, touches no line. -/
theorem lineReleased_of_lines {l : Byte} {s t : State} (h : t.lines = (releaseLine l s).lines) : LineReleased l s t := by
  have hline : ∀ m, lineAt t m = lineAt (releaseLine l s) m := fun m => by simp only [lineAt, h]
  simp +contextual [LineReleased, hline]

/-- From `s` to `t` line `l` gets the one carrier configuration, whatever it held, its trace grown by CONFIG; its claim and the other
lines stay (R121). -/
def LineConfigured (l : Byte) (s t : State) : Prop :=
  (lineAt t l).owned = (lineAt s l).owned ∧ (lineAt t l).lineCfg = some carrier ∧
  (lineAt t l).trace = (lineAt s l).trace ++ [.config carrier] ∧ (∀ m, m ≠ l → lineAt t m = lineAt s m)

theorem lineConfigured_configureLine (l : Byte) (s : State) : LineConfigured l s (configureLine l s) := by
  simp +contextual [LineConfigured]

/-! ### LOAD's copy (R122) -/

/-- A place below PSEQ_LEN gets PSEQ's entry, a place past it keeps its own. -/
theorem loadTxbuf_getElem (s : State) {k : Nat} (h : k < 220) :
    (loadTxbuf s).txbuf[k] = if k < s.pseqLen.toNat then s.pseq[k] else s.txbuf[k] := by
  have hget : (loadTxbuf s).txbuf[k] = (s.pseq.toList.take s.pseqLen.toNat).getD k s.txbuf[k] := getElem_overlay _ _ k h
  rw [hget, List.getD_eq_getElem?_getD, List.getElem?_take]
  split
  · simp [h]
  · rfl

/-- A valid sequence has its 220 entries (R25). -/
theorem MachineInv.pseqLen_eq {s : State} (hinv : MachineInv s) (hv : s.pseqValid = true) : s.pseqLen = 220 := by
  obtain ⟨-, hlen, -, -⟩ := hinv.sequence hv
  exact hlen

end Sys2Proof.Machine

open Sys2Proof Sys2Proof.Machine

/-- Settles O26: the copy place by place; under the invariant a valid sequence has 220 entries, so LOAD's bound holds. -/
theorem sendLoads : Obligations.SendLoads := by
  refine ⟨fun s l hp hlen => ?copy, fun s l hinv hv => ⟨hinv.pseqLen_eq hv, fun hp => ?bound⟩⟩
  case copy => exact ⟨_, execSend_load hp hlen, rfl, fun k hk => loadTxbuf_getElem s hk⟩
  case bound =>
    have hlen : s.pseqLen.toNat ≤ 220 := by rw [hinv.pseqLen_eq hv]; decide
    exact ⟨_, execSend_load hp hlen⟩

/-- Settles O25: one equation per outcome of CONFIGURE, and what its release and its configuration do to the lines. -/
theorem sendConfigures : Obligations.SendConfigures := by
  refine fun s l hp => ⟨fun hc => ?released, fun hc => ?configured⟩
  case released => exact ⟨_, execSend_configure_of_no_carrier hp hc, rfl, lineReleased_of_lines rfl⟩
  case configured => exact ⟨_, execSend_configure_of_carrier hp hc, rfl, lineConfigured_configureLine l s⟩

/-- Settles O29: RELEASE has one outcome, whose line is a released one. -/
theorem sendReleasesAndIsSent : Obligations.SendReleasesAndIsSent :=
  fun _ _ hp => ⟨_, execSend_release hp, rfl, lineReleased_of_lines rfl⟩

end

/-! ## Proofs: the block after reset (70_reset_and_hazards.md) -/

section

namespace Sys2Proof.Machine

/-- While IDLE with no command presented, a step only moves ENV's inputs on (R146, R166). -/
theorem step_of_no_move {s : State} (hidle : s.st = .idle) (hp : s.hostPlan = []) : step s = .next (advanceEnv s) := by
  rw [step_idle hidle, hostStep_of_no_move hp]

/-- Without a sequence neither the line's number nor ENV's inputs are looked at (R117). -/
theorem execSend_of_no_sequence {l : Byte} {s : State} (hp : s.txPhase = .off) (hv : s.pseqValid = false) :
    execSend l s = .next (raiseFailed .noSequence s) := by
  simp only [execSend, hp, sendAdmit, hv, Bool.false_eq_true, if_false]

/-- A BUILD ends with a success (R80). -/
theorem finishBuild_not_failed (f : FrameFile) (s : State) : rspFailed (finishBuild f s).rsp = false := rspFailed_okWord 0

/-- BUILD_ON succeeds in every state, whatever the policy, for a selector that names a mode and a temperature in 16..30. -/
theorem execBuildOn_succeeds {mode : BitVec 3} {temp : Byte} (s : State) (hmode : mode.toNat < 5) (hlo : 16 ≤ temp.toInt)
    (hhi : temp.toInt ≤ 30) : ∃ t, execBuildOn mode temp s = .next t ∧ rspFailed t.rsp = false := by
  obtain ⟨m, hm, -⟩ := exists_modeOf_eq_some s.cfg hmode
  exact ⟨_, execBuildOn_of_tempByte hm (tempByte_of_inside _ hlo hhi), finishBuild_not_failed _ _⟩

/-- In an idle block a failure writes nothing but the response (R140). -/
theorem raiseFailed_of_idle (c : Cause) {s : State} (hidle : s.st = .idle) :
    raiseFailed c s = { s with rsp := failedWord c, rspValid := true } := by
  rw [raiseFailed, respond, ← hidle]

end Sys2Proof.Machine

open Sys2Proof Sys2Proof.Machine

/-- Settles O10: BUILDs succeed in any state; at reset there is no frame and no sequence, and the block is idle, so the other commands
fail and write only the response. -/
theorem afterReset : Obligations.AfterReset := by
  refine ⟨(cmdReady_iff _).2 rfl, step_reset, fun _ => step_of_no_move, ?buildOff, fun mode hmode => ?buildOn,
    fun a b => ?checksum, ?encode, fun l => ?send⟩
  case buildOff => exact ⟨_, execBuildOff_eq _, finishBuild_not_failed _ _⟩
  case buildOn => exact execBuildOn_succeeds _ hmode (by decide) (by decide)
  case checksum => exact (execChecksum_of_no_frame a b rfl).trans (congrArg _ (raiseFailed_of_idle .noFrame rfl))
  case encode => exact (execEncode_of_no_frame rfl).trans (congrArg _ (raiseFailed_of_idle .noFrame rfl))
  case send => exact (execSend_of_no_sequence (s := State.reset) rfl rfl).trans (congrArg _ (raiseFailed_of_idle .noSequence rfl))

end

/-! ## Proofs: the decoder and the encoder, each the other's inverse (30_encoding.md) -/

section

namespace Sys2Proof

/-! ### A word's operand fields, read from its concatenation (R61) -/

theorem modeField_encode_buildOn (mode : BitVec 3) (temp : Byte) : modeField (encode (.buildOn mode temp)) = mode := by
  have h : (2#4 ++ 0#1 ++ mode ++ temp).extractLsb' 8 3 = (2#4 ++ 0#1 ++ mode).extractLsb' (8 - 8) 3 :=
    BitVec.extractLsb'_append_eq_of_le (by decide)
  exact h.trans BitVec.extractLsb'_append_eq_right

theorem byteField_encode_buildOn (mode : BitVec 3) (temp : Byte) : byteField (encode (.buildOn mode temp)) = temp :=
  BitVec.extractLsb'_append_eq_right

theorem startField_encode_checksum (start stop : BitVec 5) : startField (encode (.checksum start stop)) = start := by
  have h : (3#4 ++ 0#2 ++ start ++ stop).extractLsb' 5 5 = (3#4 ++ 0#2 ++ start).extractLsb' (5 - 5) 5 :=
    BitVec.extractLsb'_append_eq_of_le (by decide)
  exact h.trans BitVec.extractLsb'_append_eq_right

theorem stopField_encode_checksum (start stop : BitVec 5) : stopField (encode (.checksum start stop)) = stop :=
  BitVec.extractLsb'_append_eq_right

theorem byteField_encode_send (line : Byte) : byteField (encode (.send line)) = line :=
  BitVec.extractLsb'_append_eq_right

/-! ### Decoding an encoding -/

/-- The word of a well-formed command meets its row, so its opcode and reserved bits pass; its fields are its operands. -/
theorem decode_encode {i : Instr} (hwf : i.wf = true) : decode (encode i) = .ok i := by
  cases i with
  | buildOff => rfl
  | buildOn mode temp =>
    obtain ⟨hop, hr⟩ := (meetsBuildOnRow_iff _).1 (of_decide_eq_true (Laws.RowMatch.buildOn mode temp))
    rw [decode_opcode2 hop, if_pos hr, modeField_encode_buildOn, byteField_encode_buildOn, if_pos (of_decide_eq_true hwf)]
  | checksum start stop =>
    obtain ⟨hop, hr⟩ := (meetsChecksumRow_iff _).1 (of_decide_eq_true (Laws.RowMatch.checksum start stop))
    rw [decode_opcode3 hop, if_pos hr, startField_encode_checksum, stopField_encode_checksum]
  | encode => rfl
  | send line =>
    obtain ⟨hop, hr⟩ := (meetsSendRow_iff _).1 (of_decide_eq_true (Laws.RowMatch.send line))
    rw [decode_opcode5 hop, if_pos hr, byteField_encode_send]

/-! ### Encoding a decoded word -/

/-- Neighbouring fields, side by side, are one field. -/
theorem fields_join {w : HalfWord} {start mid len₁ len₂ : Nat} (h : mid = start + len₁) :
    w.extractLsb' mid len₂ ++ w.extractLsb' start len₁ = w.extractLsb' start (len₂ + len₁) :=
  BitVec.extractLsb'_append_extractLsb'_eq_extractLsb' h

theorem word_of_formatN (w : HalfWord) : opField w ++ reservedN w = w :=
  (fields_join rfl).trans BitVec.extractLsb'_eq_self

theorem word_of_formatB (w : HalfWord) : opField w ++ reservedB w ++ modeField w ++ byteField w = w := by
  rw [opField, reservedB, modeField, byteField, fields_join, fields_join, fields_join, BitVec.extractLsb'_eq_self] <;> rfl

theorem word_of_formatC (w : HalfWord) : opField w ++ reservedC w ++ startField w ++ stopField w = w := by
  rw [opField, reservedC, startField, stopField, fields_join, fields_join, fields_join, BitVec.extractLsb'_eq_self] <;> rfl

theorem word_of_formatS (w : HalfWord) : opField w ++ reservedS w ++ byteField w = w := by
  rw [opField, reservedS, byteField, fields_join, fields_join, BitVec.extractLsb'_eq_self] <;> rfl

/-- The decoder checks every bit its command's fields do not hold, so the fields give the word back. -/
theorem encode_of_decode {w : HalfWord} {i : Instr} (h : decode w = .ok i) : i.wf = true ∧ encode i = w := by
  rcases opcode_cases (opField w) with hop | hop | hop | hop | hop | hop
  · rw [decode_opcode1 hop] at h
    split at h <;> cases h
    next hr => exact ⟨rfl, by have h := word_of_formatN w; rwa [hop, hr] at h⟩
  · rw [decode_opcode2 hop] at h
    split at h
    next hr =>
      split at h <;> cases h
      next hmode => exact ⟨decide_eq_true hmode, by have h := word_of_formatB w; rwa [hop, hr] at h⟩
    next => cases h
  · rw [decode_opcode3 hop] at h
    split at h <;> cases h
    next hr => exact ⟨rfl, by have h := word_of_formatC w; rwa [hop, hr] at h⟩
  · rw [decode_opcode4 hop] at h
    split at h <;> cases h
    next hr => exact ⟨rfl, by have h := word_of_formatN w; rwa [hop, hr] at h⟩
  · rw [decode_opcode5 hop] at h
    split at h <;> cases h
    next hr => exact ⟨rfl, by have h := word_of_formatS w; rwa [hop, hr] at h⟩
  · rw [decode_reservedOpcode hop] at h
    cases h

end Sys2Proof

open Sys2Proof Sys2Proof.Machine

/-- Settles O2: the word meets its command's row, and its fields are the operands. -/
theorem decodeInvertsEncode : Obligations.DecodeInvertsEncode := fun _ => decode_encode

/-- Settles O3: the word is its opcode, its zero reserved bits and its operand fields. -/
theorem decodedWordIsItsEncoding : Obligations.DecodedWordIsItsEncoding := fun _ _ => encode_of_decode

/-- Settles O1: the five legal words by the model's own tests, the six illegal ones by the decoder. -/
theorem specWordsDecode : Obligations.SpecWordsDecode := by
  refine ⟨decode_buildOff_word, decode_buildOn_word, decode_checksum_word, decode_encode_word, decode_send_word, ?_⟩
  decide

end

/-! ## Proofs: the step while BUSY, HOST's assembler and its expansions (30_encoding.md, 10_state.md) -/

section

namespace Sys2Proof.Machine

/-! ### The word in CMD (logs 6, 9) -/

@[simp] theorem withFetchWord_st (s : State) (n w : Nat) : (s.withFetchWord n w).st = .busy := rfl

@[simp] theorem withFetchWord_cmd (s : State) (n : Nat) (w : HalfWord) : (s.withFetchWord n w.toNat).cmd = w :=
  BitVec.ofNat_toNat 16 w |>.trans (BitVec.setWidth_eq w)

/-! ### The next word of an expansion (R73) -/

theorem cmdValid_of_presentIfOk {s : State} {w : HalfWord} {q : List HostMove} (h : s.hostPlan = .presentIfOk w :: q) :
    cmdValid s = (s.rspValid && !rspFailed s.rsp) := by
  simp only [cmdValid, h]

/-- After a success the next word is accepted. -/
theorem step_presentIfOk_of_success {s : State} {w : HalfWord} {q : List HostMove} (hidle : s.st = .idle)
    (hp : s.hostPlan = .presentIfOk w :: q) (hv : s.rspValid = true) (hok : rspFailed s.rsp = false) :
    step s = .next (advanceEnv (accept w (setHostPlan q s))) := by
  rw [step_idle hidle, hostStep_presentIfOk hp, cmdValid_of_presentIfOk hp, hv, hok]
  rfl

/-- After a failure it is dropped. -/
theorem step_presentIfOk_of_failure {s : State} {w : HalfWord} {q : List HostMove} (hidle : s.st = .idle)
    (hp : s.hostPlan = .presentIfOk w :: q) (hfail : rspFailed s.rsp = true) :
    step s = .next (advanceEnv (setHostPlan q s)) := by
  rw [step_idle hidle, hostStep_presentIfOk hp, cmdValid_of_presentIfOk hp, hfail, Bool.not_true, Bool.and_false]
  rfl

/-! ### Operands of the assembler, cut to their fields (R71) -/

/-- A number that fits a field is the same number in the field and in the word. -/
theorem setWidth_ofNat_of_lt {n k : Nat} (hk : k < 2 ^ n) : (BitVec.ofNat n k).setWidth 16 = BitVec.ofNat 16 k := by
  apply BitVec.eq_of_toNat_eq
  rw [BitVec.toNat_setWidth, BitVec.toNat_ofNat, BitVec.toNat_ofNat, Nat.mod_eq_of_lt hk]

/-- An integer modulo 256 is the low byte of the integer modulo 65536. -/
theorem setWidth_ofInt (t : Int) : (BitVec.ofInt 8 t).setWidth 16 = BitVec.ofInt 16 t &&& 0xFF := by
  apply BitVec.eq_of_toNat_eq
  have hmask : (BitVec.ofInt 16 t).toNat &&& 255 = (BitVec.ofInt 16 t).toNat % 256 :=
    Nat.and_two_pow_sub_one_eq_mod _ 8
  rw [BitVec.toNat_and, BitVec.toNat_setWidth, BitVec.toNat_ofInt]
  refine Eq.trans ?_ hmask.symm
  rw [BitVec.toNat_ofInt]
  omega

/-- SEND's fields, concatenated, are its opcode and its operand ORed. -/
theorem encode_send (line : Byte) : encode (.send line) = 0x5000 ||| line.setWidth 16 := by
  have hfields := BitVec.setWidth_append_eq_shiftLeft_setWidth_or (b := 5#4 ++ 0#4) (b' := line) (w'' := 16)
  rwa [BitVec.setWidth_eq] at hfields

theorem assemble_buildOn (mode : Nat) (temp : Int) : assemble (.buildOn mode temp) =
    if mode ≤ 7 ∧ -128 ≤ temp ∧ temp ≤ 255 then some (encode (.buildOn (BitVec.ofNat 3 mode) (BitVec.ofInt 8 temp)))
    else none := by
  refine ite_congr rfl (fun h => ?_) fun _ => rfl
  rw [encode_buildOn, setWidth_ofNat_of_lt (by omega), setWidth_ofInt]

theorem assemble_checksum (start stop : Nat) : assemble (.checksum start stop) =
    if start ≤ 31 ∧ stop ≤ 31 then some (encode (.checksum (BitVec.ofNat 5 start) (BitVec.ofNat 5 stop))) else none := by
  refine ite_congr rfl (fun h => ?_) fun _ => rfl
  rw [encode_checksum, setWidth_ofNat_of_lt (by omega), setWidth_ofNat_of_lt (by omega)]

theorem assemble_send (line : Nat) :
    assemble (.send line) = if line ≤ 255 then some (encode (.send (BitVec.ofNat 8 line))) else none := by
  refine ite_congr rfl (fun h => ?_) fun _ => rfl
  rw [encode_send, setWidth_ofNat_of_lt (by omega)]

end Sys2Proof.Machine

open Sys2Proof Sys2Proof.Machine

/-- Settles O6: a placed word is decoded back to its command (O2), and a BUSY step runs the command in CMD. -/
theorem stepRunsTheCommandInCmd : Obligations.StepRunsTheCommandInCmd := by
  refine ⟨fun s i => step_busy, fun s i hwf => step_busy (withFetchWord_st s _ _) ?_⟩
  rw [withFetchWord_cmd]
  exact decode_encode hwf

/-- Settles O8: by CMD_VALID of the move. -/
theorem expansionStopsAtFailed : Obligations.ExpansionStopsAtFailed :=
  fun _ _ _ hidle hp hv => ⟨step_presentIfOk_of_success hidle hp hv, step_presentIfOk_of_failure hidle hp⟩

/-- Settles O44: the fields of the encoder's word, shifted and ORed, are the assembler's. -/
theorem assemblerIsTheEncoder : Obligations.AssemblerIsTheEncoder :=
  ⟨rfl, rfl, assemble_buildOn, assemble_checksum, assemble_send⟩

/-- Settles O45: by the definitions of the expansion and of the request. -/
theorem pseudoInstructionsExpand : Obligations.PseudoInstructionsExpand :=
  ⟨fun _ => rfl, fun _ _ _ => rfl, fun _ _ hon => if_pos hon, fun _ _ hoff => if_neg (Bool.eq_false_iff.1 hoff)⟩

end

/-! ## Proofs: the frame's fields, the checksum's laws, and the sequence read back (40, 41, 42, 70) -/

section

namespace Sys2Proof.Machine

/-! ### The frame BUILD_ON leaves, byte by byte (R82) -/

@[simp] theorem onFrame_getElem_13 (t : FrameFile) (code b14 : Byte) : (onFrame t code b14)[13] = t[13] ||| 0x01 ||| code := by
  simp [onFrame]

@[simp] theorem onFrame_getElem_14 (t : FrameFile) (code b14 : Byte) : (onFrame t code b14)[14] = b14 := by
  simp [onFrame]

theorem onFrame_getElem_of_ne (t : FrameFile) (code b14 : Byte) {i : Nat} (hi : i < 27) (h13 : i ≠ 13) (h14 : i ≠ 14) :
    (onFrame t code b14)[i] = t[i] := by
  simp [onFrame, h13.symm, h14.symm]

/-! ### Sums of bytes (R90, R92) -/

/-- The byte sum is the sum in the ring of bytes. -/
theorem byteSum_eq_sum (bs : List Byte) : byteSum bs = bs.sum := List.sum_eq_foldl.symm

/-- A range of one byte. -/
theorem frameRange_singleton (f : FrameFile) {i : Nat} (h : i < 27) : frameRange f i (i + 1) = [f[i]] := by
  have hdrop : f.toList.drop i = f[i] :: f.toList.drop (i + 1) := by
    rw [List.drop_eq_getElem_cons (by simpa using h), Vector.getElem_toList]
  rw [frameRange, hdrop, Nat.add_sub_cancel_left, List.take_one]
  rfl

/-! ### The sequence carries the 27 bytes ENCODE leaves in FRAME (R101, R109) -/

/-- The checksum's entries follow those of bytes 8 to 25, so the second part of the sequence is bytes 8 to 26 of the frame with its
checksum. -/
theorem sequenceOf_eq_bytes (c : Config) (f : FrameFile) : sequenceOf c f =
    c.tHdr :: (bytesOf c (withChecksum f) 0 8 ++ c.tPause :: c.tHdr :: (bytesOf c (withChecksum f) 8 27 ++ [tEnd c])) := by
  have hkeep : ∀ a b, b ≤ 26 → frameRange (withChecksum f) a b = frameRange f a b :=
    fun a b hb => frameRange_set f 26 _ a b (by decide) hb
  have hlast : frameRange (withChecksum f) 26 27 = [cksum f 8 26] := by
    rw [frameRange_singleton _ (by decide)]
    simp [withChecksum]
  simp [sequenceOf, bytesOf, frameRange_split (withChecksum f) 8 26 27 (by decide) (by decide), hkeep, hlast]

/-- The entry at the inverse reader's place for bit `j` of byte `k` is that bit's symbol: one case per part of the sequence. -/
theorem layout_getElem_byteBase (c : Config) (f : FrameFile) {k j : Nat} (hk : k < 27) (hj : j < 8) :
    readEntry (layout c f) (byteBase k + j) = some (sym c ((withChecksum f)[k].getLsbD j)) := by
  have hlen : (bytesOf c (withChecksum f) 0 8).length = 64 := bytesOf_length c _ 0 8 (by decide)
  have hlen' : (bytesOf c (withChecksum f) 8 27).length = 152 := bytesOf_length c _ 8 27 (by decide)
  rw [readEntry, ← Vector.getElem?_toList, toList_layout, sequenceOf_eq_bytes]
  by_cases h8 : k < 8
  · have hplace : byteBase k + j = (8 * k + j) + 1 := by rw [byteBase, if_pos h8]; omega
    have hbyte : 0 + (8 * k + j) / 8 = k := by omega
    have hbit : (8 * k + j) % 8 = j := by omega
    rw [hplace, List.getElem?_cons_succ, List.getElem?_append_left (by omega), bytesOf_getElem c _ 0 8 _ (by decide) (by omega),
      hbyte, hbit, bitEntry, Vector.getElem?_eq_getElem hk]
    rfl
  · have hplace : byteBase k + j = (64 + ((8 * (k - 8) + j) + 2)) + 1 := by rw [byteBase, if_neg h8]; omega
    have hbyte : 8 + (8 * (k - 8) + j) / 8 = k := by omega
    have hbit : (8 * (k - 8) + j) % 8 = j := by omega
    rw [hplace, List.getElem?_cons_succ, List.getElem?_append_right (by omega), hlen, Nat.add_sub_cancel_left,
      List.getElem?_cons_succ, List.getElem?_cons_succ, List.getElem?_append_left (by omega),
      bytesOf_getElem c _ 8 27 _ (by decide) (by omega), hbyte, hbit, bitEntry, Vector.getElem?_eq_getElem hk]
    rfl

/-- A symbol carries its bit when the two symbols differ. -/
theorem bitOfEntry_sym {c : Config} (h : c.tZero ≠ c.tOne) (b : Bool) : bitOfEntry c (sym c b) = some b := by
  cases b <;> simp [bitOfEntry, sym, h]

/-- A byte is its eight bits, bit 0 first. -/
theorem ofBoolListLE_bits (x : Byte) : BitVec.ofBoolListLE [x.getLsbD 0, x.getLsbD 1, x.getLsbD 2, x.getLsbD 3,
    x.getLsbD 4, x.getLsbD 5, x.getLsbD 6, x.getLsbD 7] = x := by
  revert x; decide +kernel

theorem readByte_layout {c : Config} (h : c.tZero ≠ c.tOne) (f : FrameFile) {k : Nat} (hk : k < 27) :
    readByte c (layout c f) k = some (withChecksum f)[k] := by
  have hbit : ∀ j < 8, (readEntry (layout c f) (byteBase k + j)).bind (bitOfEntry c) = some ((withChecksum f)[k].getLsbD j) :=
    fun j hj => by rw [layout_getElem_byteBase c f hk hj, Option.bind_some, bitOfEntry_sym h]
  simp (disch := decide) only [readByte, hbit, Option.bind_some, Option.map_some, ofBoolListLE_bits]

/-! ### The time of the sequence on the line (R180) -/

/-- The bits of bytes, bit 0 of each first, in the order they are sent. -/
def sentBits (bs : List Byte) : List Bool := bs.flatMap fun b => (List.range 8).map b.getLsbD

theorem flatMap_bitsOf_eq (c : Config) (bs : List Byte) : bs.flatMap (bitsOf c) = (sentBits bs).map (sym c) := by
  rw [sentBits, List.map_flatMap]
  rfl

theorem sentBits_length (bs : List Byte) : (sentBits bs).length = 8 * bs.length := by
  simp [sentBits, List.length_flatMap, Nat.mul_comm]

theorem oneBits_eq_count (f : FrameFile) : oneBits f = (sentBits f.toList).count true := by
  simp [oneBits, sentBits, List.count, List.countP_flatMap, List.countP_map, Function.comp_def]

/-- Symbols last one T_ONE for each 1 bit and one T_ZERO for each other. -/
theorem time_map_sym (c : Config) (bs : List Bool) :
    ((bs.map (sym c)).map entryTime).sum =
      bs.count true * entryTime c.tOne + (bs.length - bs.count true) * entryTime c.tZero := by
  induction bs with
  | nil => simp
  | cons b bs ih =>
    have hle : bs.count true ≤ bs.length := List.count_le_length
    cases b with
    | false =>
      rw [List.map_cons, List.map_cons, List.sum_cons, ih, List.count_cons_of_ne (by decide), List.length_cons,
        Nat.sub_add_comm hle, sym, if_neg Bool.false_ne_true]
      ring
    | true =>
      rw [List.map_cons, List.map_cons, List.sum_cons, ih, List.count_cons_self, List.length_cons, Nat.add_sub_add_right, sym,
        if_pos rfl]
      ring

/-- The sequence lasts as its headers, its pause, the symbols of the 27 bytes it carries and its terminator. -/
theorem time_layout (c : Config) (f : FrameFile) : ((layout c f).toList.map entryTime).sum =
    2 * entryTime c.tHdr + entryTime c.tPause +
      (((sentBits (withChecksum f).toList).map (sym c)).map entryTime).sum + c.tEndActive.toNat := by
  have hparts : (withChecksum f).toList = frameRange (withChecksum f) 0 8 ++ frameRange (withChecksum f) 8 27 := by
    rw [← frameRange_split _ _ _ _ (by decide) (by decide)]
    simp [frameRange]
  have hend : entryTime (tEnd c) = c.tEndActive.toNat := rfl
  rw [← flatMap_bitsOf_eq, hparts, toList_layout, sequenceOf_eq_bytes]
  simp [bytesOf, hend]
  ring

end Sys2Proof.Machine

open Sys2Proof Sys2Proof.Machine

/-- Settles O14: byte 13's bits by the law of the OR (O12), byte 14 a doubled temperature that does not wrap. -/
theorem buildOnFieldBits : Obligations.BuildOnFieldBits := by
  intro s mode temp h hc hlo hhi
  obtain ⟨-, -, -, -, -, hbits⟩ := buildOnBuildsTheFrame
  obtain ⟨m, hm, hcode⟩ := exists_modeOf_eq_some s.cfg h
  obtain ⟨hbit0, hkept, hnibble⟩ := hbits s.cfg _ hc (List.getElem_mem (l := codeTable s.cfg) (by simpa using h))
  refine ⟨_, execBuildOn_of_tempByte hm (tempByte_of_inside _ hlo hhi), ?_⟩
  simp only [finishBuild, respondOk_eq, respond_frame, frameBuilt_frame, writeFrame_frame, onFrame_getElem_13,
    onFrame_getElem_14, hcode]
  exact ⟨hbit0, hkept, hnibble, doubled_toNat (by omega) (by omega), fun i hi => onFrame_getElem_of_ne _ _ _ hi⟩

/-- Settles O15: a BUILD's outcome reads nothing of the state but its parameters. -/
theorem buildForgetsThePast : Obligations.BuildForgetsThePast := by
  rintro i s s' (rfl | ⟨mode, temp, rfl⟩) hcfg
  · exact ⟨_, _, execBuildOff_eq s, execBuildOff_eq s', rfl, fun _ => ⟨congrArg Config.template hcfg, rfl, rfl, rfl, rfl⟩⟩
  · rcases execBuildOn_cases mode temp s with ⟨hm, h⟩ | ⟨m, hm, hb, h⟩ | ⟨m, b14, hm, hb, h⟩
    · refine ⟨_, _, h, execBuildOn_of_no_mode temp s' hm, rfl, fun hok => ?_⟩
      exact absurd hok (by simp)
    · refine ⟨_, _, h, execBuildOn_of_no_tempByte hm (hcfg ▸ hb), rfl, fun hok => ?_⟩
      exact absurd hok (by simp)
    · refine ⟨_, _, h, execBuildOn_of_tempByte hm (hcfg ▸ hb), rfl, fun _ => ⟨?_, rfl, rfl, rfl, rfl⟩⟩
      exact congrArg (fun c => onFrame c.template (modeCode c m) b14) hcfg

/-- Settles O17: the byte sum is a sum in a commutative monoid. -/
theorem checksumSplitsAndPermutes : Obligations.ChecksumSplitsAndPermutes := by
  refine ⟨fun f a k b hak hkb _ => ?split, fun bs cs hperm => ?perm⟩
  case split => simp only [cksum, byteSum_eq_sum, frameRange_split f a k b hak hkb, List.sum_append]
  case perm => simp only [byteSum_eq_sum, hperm.sum_eq]

/-- Settles O18: the sum of one byte is the byte. -/
theorem checksumReadsBack : Obligations.ChecksumReadsBack := by
  intro s i h hf
  have ha : (BitVec.ofNat 5 i).toNat = i := by rw [BitVec.toNat_ofNat]; omega
  have hb : (BitVec.ofNat 5 (i + 1)).toNat = i + 1 := by rw [BitVec.toNat_ofNat]; omega
  have hsum : cksum s.frame i (i + 1) = s.frame[i] := by
    rw [cksum, frameRange_singleton s.frame h, byteSum_eq_sum, List.sum_singleton]
  refine (execChecksum_of_range hf (by omega) (by omega)).trans ?_
  rw [ha, hb, hsum, respondOk_eq, okWord_eq, ← BitVec.ofNat_toNat]
  rfl

/-- Settles O20: the reader finds every bit of the frame with its checksum at its place. -/
theorem encodeRoundTrip : Obligations.EncodeRoundTrip :=
  fun s hne hf => ⟨_, execEncode_of_frame hf, fun _ => readByte_layout hne s.frame⟩

/-- Settles O22: the sequence's time by its parts, the 216 bits of FRAME lasting as many ones as they have 1 bits. -/
theorem signalLength : Obligations.SignalLength := by
  intro s hf
  have hlen : (sentBits (withChecksum s.frame).toList).length = 216 := by simp [sentBits_length]
  refine ⟨_, execEncode_of_frame hf, ?_, ?_⟩
  · rw [oneBits_eq_count, ← hlen]
    exact List.count_le_length
  · rw [oneBits_eq_count, time_layout, time_map_sym, hlen]
    ring

end

/-! ## Proofs: the Transmission Driver's admission, CLAIM and EMIT (43_transmission.md) -/

section

namespace Sys2Proof.Machine

/-! ### Admission and CLAIM, one equation per outcome (R117 to R120) -/

theorem lineExists_iff (c : Config) (l : Byte) : lineExists c l = true ↔ l.toNat < c.nLines := decide_eq_true_iff

theorem lineExists_eq_false_iff (c : Config) (l : Byte) : lineExists c l = false ↔ c.nLines ≤ l.toNat := by
  rw [lineExists, decide_eq_false_iff_not, not_lt]

theorem execSend_of_no_line {l : Byte} {s : State} (hp : s.txPhase = .off) (hv : s.pseqValid = true)
    (hl : lineExists s.cfg l = false) : execSend l s = .next (raiseFailed .cfgInvalidLine s) := by
  simp only [execSend, hp, sendAdmit, hv, hl, Bool.false_eq_true, if_true, if_false]

theorem execSend_of_unavailable {l : Byte} {s : State} (hp : s.txPhase = .off) (hv : s.pseqValid = true)
    (hl : lineExists s.cfg l = true) (ha : (inputsAt s l).available = false) :
    execSend l s = .next (raiseFailed .cfgLineUnavailable (setTxLine l s)) := by
  simp only [execSend, hp, sendAdmit, hv, hl, ha, Bool.false_eq_true, if_true, if_false]

theorem execSend_admitted {l : Byte} {s : State} (hp : s.txPhase = .off) (hv : s.pseqValid = true)
    (hl : lineExists s.cfg l = true) (ha : (inputsAt s l).available = true) :
    execSend l s = .next (setPhase .claim (setTxLine l s)) := by
  simp only [execSend, hp, sendAdmit, hv, hl, ha, if_true]

theorem execSend_claim_of_claimed {l : Byte} {s : State} (hp : s.txPhase = .claim) (hc : (inputsAt s l).claimed = true) :
    execSend l s = .next (raiseFailed .hwBusy (setPhase .off s)) := by
  simp only [execSend, hp, sendClaim, hc, if_true]

theorem execSend_claim_of_unclaimed {l : Byte} {s : State} (hp : s.txPhase = .claim) (hc : (inputsAt s l).claimed = false) :
    execSend l s = .next (setPhase .configure (claimLine l s)) := by
  simp only [execSend, hp, sendClaim, hc, Bool.false_eq_true, if_false]

/-! ### EMIT, one equation per outcome (R123, R124) -/

theorem execSend_emit_of_fault {l : Byte} {s : State} (hp : s.txPhase = .emit) (hlt : s.txPtr < s.txLen)
    (hd : drawHwFault s = true) : execSend l s = .next (raiseFailed .hwFault (releaseLine l s)) := by
  simp only [execSend, hp, sendEmit, hlt, hd, if_true]

theorem execSend_emit_of_entry {l : Byte} {s : State} (hp : s.txPhase = .emit) (hlt : s.txPtr < s.txLen)
    (hd : drawHwFault s = false) (hk : s.txPtr.toNat < 220) :
    execSend l s = .next (emitEntry l s.txbuf[s.txPtr.toNat] s) := by
  simp only [execSend, hp, sendEmit, hlt, hd, readEntry_lt _ _ hk, Bool.false_eq_true, if_true, if_false]

theorem execSend_emit_done {l : Byte} {s : State} (hp : s.txPhase = .emit) (hge : ¬ s.txPtr < s.txLen) :
    execSend l s = .next (setPhase .release s) := by
  simp only [execSend, hp, sendEmit, hge, if_false]

/-- ENV draws no fault under NEVER (R30). -/
theorem drawHwFault_never {s : State} (h : s.cfg.hwFaultModel = .never) : drawHwFault s = false := by
  simp only [drawHwFault, h]

/-! ### Lines after a claim and after an entry -/

/-- From `s` to `t` line `l` keeps its configuration and its trace grows by the events; the other lines stay. -/
def LineGrown (l : Byte) (evs : List Event) (s t : State) : Prop :=
  (lineAt t l).lineCfg = (lineAt s l).lineCfg ∧ (lineAt t l).trace = (lineAt s l).trace ++ evs ∧
  (∀ m, m ≠ l → lineAt t m = lineAt s m)

theorem lineGrown_claimLine (l : Byte) (s : State) : LineGrown l [.claim] s (claimLine l s) := by
  simp +contextual [LineGrown]

theorem claimLine_owned (l : Byte) (s : State) : (lineAt (claimLine l s) l).owned = true := by
  simp

theorem lineGrown_emitEntry (l : Byte) (e : Entry) (s : State) : LineGrown l (segments e) s (emitEntry l e s) := by
  simp +contextual [LineGrown, emitEntry]

theorem emitEntry_owned (l : Byte) (e : Entry) (s : State) : (lineAt (emitEntry l e s) l).owned = (lineAt s l).owned := by
  simp [emitEntry]

/-- An entry is a MARK, and a SPACE unless its idle count is 0 (R69). -/
theorem segments_eq (e : Entry) : segments e = .mark e.active :: if e.idle = 0 then [] else [.space e.idle] := by
  unfold segments
  split <;> rfl

/-- TX_PTR below 220 does not wrap (R28). -/
theorem txPtr_succ {k : BitVec 8} (hk : k.toNat < 220) : (k + 1).toNat = k.toNat + 1 := by
  rw [BitVec.toNat_add, show (1 : BitVec 8).toNat = 1 from rfl]
  omega

/-- After an entry the phase is RELEASE if it was the terminator or the last one (R123). -/
theorem emitEntry_txPhase {l : Byte} {e : Entry} {s : State} (hk : s.txPtr.toNat < 220) (hlt : s.txPtr < s.txLen) :
    (emitEntry l e s).txPhase = if e.idle = 0 ∨ s.txPtr.toNat + 1 = s.txLen.toNat then .release else .emit := by
  have hlast : s.txLen ≤ s.txPtr + 1 ↔ s.txPtr.toNat + 1 = s.txLen.toNat := by
    rw [BitVec.le_def, txPtr_succ hk]
    rw [BitVec.lt_def] at hlt
    omega
  simp only [emitEntry, setPhase_txPhase, hlast]

/-! ### HW_FAULT (R124) -/

/-- SEND ends with HW_FAULT only by a fault drawn. -/
theorem execSend_hwFault {l : Byte} {s t : State} (h : execSend l s = .next t) (hfault : t.rsp = failedWord .hwFault) :
    t.rsp = s.rsp ∨ drawHwFault s = true := by
  rcases execSend_cases h with ⟨_, _, rfl⟩ | ⟨_, _, _, rfl⟩ | ⟨_, _, _, rfl⟩ | ⟨_, _, _, rfl⟩ | ⟨_, rfl⟩ | ⟨_, rfl⟩ |
    ⟨_, rfl⟩ | ⟨_, rfl⟩ | ⟨_, _, rfl⟩ | ⟨_, _, hd, rfl⟩ | ⟨_, _, _, _, rfl⟩ | ⟨_, _, rfl⟩ | ⟨_, rfl⟩
  · exact absurd hfault (by decide : failedWord .noSequence ≠ _)
  · exact absurd hfault (by decide : failedWord .cfgInvalidLine ≠ _)
  · exact absurd hfault (by decide : failedWord .cfgLineUnavailable ≠ _)
  · exact .inl rfl
  · exact absurd hfault (by decide : failedWord .hwBusy ≠ _)
  · exact .inl rfl
  · exact .inl rfl
  · exact absurd hfault (by decide : failedWord .cfgUnsupportedCarrier ≠ _)
  · exact .inl rfl
  · exact .inr hd
  · exact .inl rfl
  · exact .inl rfl
  · exact absurd hfault (by decide : okWord 0 ≠ _)

end Sys2Proof.Machine

open Sys2Proof Sys2Proof.Machine

/-- Settles O23: one equation per outcome of the admission. -/
theorem sendAdmission : Obligations.SendAdmission := fun _ _ hp =>
  ⟨fun hv => execSend_of_no_sequence hp hv,
    fun hv hl => execSend_of_no_line hp hv ((lineExists_eq_false_iff _ _).2 hl),
    fun hv hl ha => execSend_of_unavailable hp hv ((lineExists_iff _ _).2 hl) ha,
    fun hv hl ha => execSend_admitted hp hv ((lineExists_iff _ _).2 hl) ha⟩

/-- Settles O24: one equation per outcome of CLAIM, and what the claim does to the lines. -/
theorem sendClaims : Obligations.SendClaims := fun s l hp =>
  ⟨fun hc => execSend_claim_of_claimed hp hc,
    fun hc => ⟨_, execSend_claim_of_unclaimed hp hc, rfl, claimLine_owned l s, lineGrown_claimLine l s⟩⟩

/-- Settles O27: the equation of an entry emitted, and what it does to TX_PTR, the phase and the lines. -/
theorem sendEmitsOneEntry : Obligations.SendEmitsOneEntry := by
  intro s l hk hp hlt hd
  obtain ⟨hcfg, htrace, hothers⟩ := lineGrown_emitEntry l s.txbuf[s.txPtr.toNat] s
  refine ⟨_, execSend_emit_of_entry hp (BitVec.lt_def.2 hlt) hd hk, rfl, txPtr_succ hk,
    emitEntry_txPhase hk (BitVec.lt_def.2 hlt), emitEntry_owned l _ s, hcfg, ?_, hothers⟩
  rw [htrace, segments_eq]

/-- Settles O28: the equation of a fault drawn, whose line is a released one; under NEVER none is drawn. -/
theorem sendFaultsInEmission : Obligations.SendFaultsInEmission := by
  refine ⟨fun s l hp hlt hd => ?drawn, fun s t l hnever hrsp hstep hfault => ?never⟩
  case drawn => exact ⟨_, execSend_emit_of_fault hp (BitVec.lt_def.2 hlt) hd, rfl, lineReleased_of_lines rfl⟩
  case never =>
    rcases execSend_hwFault hstep hfault with hkept | hd
    · exact hrsp (hkept.symm.trans hfault)
    · exact absurd hd (by rw [drawHwFault_never hnever]; decide)

end

/-! ## Proofs: what the commands and the steps leave alone (10_state.md, 20_memory.md, 60_exceptions.md) -/

section

namespace Sys2Proof.Machine

/-! ### The sequencer's commands: BUILD_OFF, BUILD_ON, CHECKSUM, ENCODE -/

/-- From `s` to `t` the parameters, CMD, the transmitter's registers, the lines, ENV's inputs and HOST's plan stay. -/
def SequencerKeeps (s t : State) : Prop :=
  t.cfg = s.cfg ∧ t.cmd = s.cmd ∧ t.txPhase = s.txPhase ∧ t.txPtr = s.txPtr ∧ t.txLen = s.txLen ∧ t.txLine = s.txLine ∧
  t.txbuf = s.txbuf ∧ (∀ l, lineAt t l = lineAt s l) ∧ t.env = s.env ∧ t.envPlan = s.envPlan ∧
  t.hostPlan = s.hostPlan ∧ t.resetCount = s.resetCount

/-- The response, FRAME, PSEQ and the flags are none of these, so a state that differs in them alone keeps them. -/
theorem sequencerKeeps_refl (s : State) : SequencerKeeps s s :=
  ⟨rfl, rfl, rfl, rfl, rfl, rfl, rfl, fun _ => rfl, rfl, rfl, rfl, rfl⟩

theorem exec_sequencerKeeps {i : Instr} {s t : State} (hi : ∀ l, i ≠ .send l) (h : exec i s = .next t) :
    SequencerKeeps s t := by
  cases i with
  | buildOff => cases h; exact sequencerKeeps_refl s
  | buildOn mode temp =>
    change execBuildOn mode temp s = .next t at h
    rcases execBuildOn_cases mode temp s with ⟨_, e⟩ | ⟨_, _, _, e⟩ | ⟨_, _, _, _, e⟩ <;> rw [e] at h <;> cases h <;>
      exact sequencerKeeps_refl s
  | checksum a b =>
    change execChecksum a b s = .next t at h
    rcases execChecksum_cases a b s with ⟨_, e⟩ | ⟨_, _, e⟩ | ⟨_, _, e⟩ <;> rw [e] at h <;> cases h <;>
      exact sequencerKeeps_refl s
  | encode =>
    change execEncode s = .next t at h
    rcases execEncode_cases s with ⟨_, e⟩ | ⟨_, e⟩ <;> rw [e] at h <;> cases h <;> exact sequencerKeeps_refl s
  | send l => exact absurd rfl (hi l)

/-! ### SEND -/

/-- From `s` to `t` the parameters, CMD, FRAME, PSEQ, ENV's inputs and HOST's plan stay, and so do all lines but `l`, whose trace keeps
its events. -/
def SendKeeps (l : Byte) (s t : State) : Prop :=
  t.cfg = s.cfg ∧ t.cmd = s.cmd ∧ t.frame = s.frame ∧ t.pseq = s.pseq ∧ t.pseqLen = s.pseqLen ∧
  t.env = s.env ∧ t.envPlan = s.envPlan ∧ t.hostPlan = s.hostPlan ∧ t.resetCount = s.resetCount ∧
  (∀ m, m ≠ l → lineAt t m = lineAt s m) ∧ (lineAt s l).trace <+: (lineAt t l).trace

/-- The response, the transmitter's registers and the flags are none of these. -/
theorem sendKeeps_refl (l : Byte) (s : State) : SendKeeps l s s :=
  ⟨rfl, rfl, rfl, rfl, rfl, rfl, rfl, rfl, rfl, fun _ _ => rfl, List.prefix_refl _⟩

/-- Events appended to line `l`, whatever becomes of its claim and its configuration. -/
theorem sendKeeps_append (l : Byte) (s : State) {x : Line} {evs : List Event} (hx : x.trace = (lineAt s l).trace) :
    SendKeeps l s (setLine l (lineAfter evs x) s) :=
  ⟨rfl, rfl, rfl, rfl, rfl, rfl, rfl, rfl, rfl, fun m hm => by rw [lineAt_setLine, if_neg hm],
    by rw [lineAt_setLine, if_pos rfl, lineAfter_trace, hx]; exact List.prefix_append _ _⟩

theorem execSend_keeps {l : Byte} {s t : State} (h : execSend l s = .next t) : SendKeeps l s t := by
  rcases execSend_cases h with ⟨_, _, rfl⟩ | ⟨_, _, _, rfl⟩ | ⟨_, _, _, rfl⟩ | ⟨_, _, _, rfl⟩ | ⟨_, rfl⟩ | ⟨_, rfl⟩ |
    ⟨_, rfl⟩ | ⟨_, rfl⟩ | ⟨_, _, rfl⟩ | ⟨_, _, _, rfl⟩ | ⟨_, _, _, _, rfl⟩ | ⟨_, _, rfl⟩ | ⟨_, rfl⟩
  · exact sendKeeps_refl l s
  · exact sendKeeps_refl l s
  · exact sendKeeps_refl l s
  · exact sendKeeps_refl l s
  · exact sendKeeps_refl l s
  · exact sendKeeps_append l s (by rfl)
  · exact sendKeeps_append l s (by rfl)
  · exact sendKeeps_append l s (by rfl)
  · exact sendKeeps_refl l s
  · exact sendKeeps_append l s (by rfl)
  · exact sendKeeps_append l s (by rfl)
  · exact sendKeeps_refl l s
  · exact sendKeeps_append l s (by rfl)

/-- Which of the transmitter's registers and flags a phase of SEND leaves. -/
theorem execSend_registers {l : Byte} {s t : State} (h : execSend l s = .next t) :
    (s.txPhase ≠ .off → t.txLine = s.txLine) ∧
    (s.txPhase ≠ .load → t.txbuf = s.txbuf ∧ t.txLen = s.txLen) ∧
    (s.txPhase ≠ .load → s.txPhase ≠ .emit → t.txPtr = s.txPtr) ∧
    (s.txPhase ≠ .release → t.frameValid = s.frameValid ∧ t.pseqValid = s.pseqValid) := by
  rcases execSend_cases h with ⟨hp, _, rfl⟩ | ⟨hp, _, _, rfl⟩ | ⟨hp, _, _, rfl⟩ | ⟨hp, _, _, rfl⟩ | ⟨hp, rfl⟩ | ⟨hp, rfl⟩ |
    ⟨hp, rfl⟩ | ⟨hp, rfl⟩ | ⟨hp, _, rfl⟩ | ⟨hp, _, _, rfl⟩ | ⟨hp, _, _, _, rfl⟩ | ⟨hp, _, rfl⟩ | ⟨hp, rfl⟩ <;>
    simp [hp, emitEntry, sendRelease]

/-- A step of SEND that responds leaves the phase OFF, with a failure before RELEASE or as RELEASE does. -/
theorem execSend_ends {l : Byte} {s t : State} (hbusy : s.st = .busy) (h : execSend l s = .next t) (hidle : t.st = .idle) :
    t.txPhase = .off ∧
    ((s.txPhase ≠ .release ∧ ∃ c, t.rsp = failedWord c) ∨ (s.txPhase = .release ∧ t = sendRelease l s)) := by
  rcases execSend_cases h with ⟨hp, _, rfl⟩ | ⟨hp, _, _, rfl⟩ | ⟨hp, _, _, rfl⟩ | ⟨hp, _, _, rfl⟩ | ⟨hp, rfl⟩ | ⟨hp, rfl⟩ |
    ⟨hp, rfl⟩ | ⟨hp, rfl⟩ | ⟨hp, _, rfl⟩ | ⟨hp, _, _, rfl⟩ | ⟨hp, _, _, _, rfl⟩ | ⟨hp, _, rfl⟩ | ⟨hp, rfl⟩
  · exact ⟨hp, .inl ⟨by simp [hp], _, rfl⟩⟩
  · exact ⟨hp, .inl ⟨by simp [hp], _, rfl⟩⟩
  · exact ⟨hp, .inl ⟨by simp [hp], _, rfl⟩⟩
  · simp [hbusy] at hidle
  · exact ⟨rfl, .inl ⟨by simp [hp], _, rfl⟩⟩
  · simp [hbusy] at hidle
  · simp [hbusy] at hidle
  · exact ⟨rfl, .inl ⟨by simp [hp], _, rfl⟩⟩
  · simp [hbusy] at hidle
  · exact ⟨rfl, .inl ⟨by simp [hp], _, rfl⟩⟩
  · simp [hbusy, emitEntry] at hidle
  · simp [hbusy] at hidle
  · exact ⟨rfl, .inr ⟨hp, rfl⟩⟩

/-! ### FRAME, PSEQ and their flags under every command -/

/-- From `s` to `t` the stores and their flags stay. -/
def DataKept (s t : State) : Prop :=
  t.frame = s.frame ∧ t.frameValid = s.frameValid ∧ t.pseq = s.pseq ∧ t.pseqLen = s.pseqLen ∧ t.pseqValid = s.pseqValid

theorem dataKept_refl (s : State) : DataKept s s := ⟨rfl, rfl, rfl, rfl, rfl⟩

/-- Everything a command does to the stores and their flags: a BUILD's frame, ENCODE's sequence, RELEASE's discard, or nothing. -/
theorem exec_data_cases {i : Instr} {s t : State} (h : exec i s = .next t) :
    DataKept s t ∨
    (∃ f, (i = .buildOff ∨ ∃ m b, i = .buildOn m b) ∧ BuiltFrame s.cfg f ∧ t = finishBuild f s) ∨
    (i = .encode ∧ s.frameValid = true ∧ t = respondOk 220 (sequenceBuilt
      (writeSequence (sequenceOf s.cfg s.frame) (writeFrame (withChecksum s.frame) s)))) ∨
    (∃ l, i = .send l ∧ s.txPhase = .release ∧ t = sendRelease l s) := by
  cases i with
  | buildOff => cases h; exact .inr (.inl ⟨_, .inl rfl, .inl rfl, rfl⟩)
  | buildOn mode temp =>
    change execBuildOn mode temp s = .next t at h
    rcases execBuildOn_cases mode temp s with ⟨_, e⟩ | ⟨_, _, _, e⟩ | ⟨m, b14, _, hb, e⟩ <;> rw [e] at h <;> cases h
    · exact .inl (dataKept_refl s)
    · exact .inl (dataKept_refl s)
    · exact .inr (.inl ⟨_, .inr ⟨mode, temp, rfl⟩, .inr ⟨m, temp, b14, hb, rfl⟩, rfl⟩)
  | checksum a b =>
    change execChecksum a b s = .next t at h
    rcases execChecksum_cases a b s with ⟨_, e⟩ | ⟨_, _, e⟩ | ⟨_, _, e⟩ <;> rw [e] at h <;> cases h <;>
      exact .inl (dataKept_refl s)
  | encode =>
    change execEncode s = .next t at h
    rcases execEncode_cases s with ⟨_, e⟩ | ⟨hf, e⟩ <;> rw [e] at h <;> cases h
    · exact .inl (dataKept_refl s)
    · exact .inr (.inr (.inl ⟨rfl, hf, rfl⟩))
  | send l =>
    by_cases hp : s.txPhase = .release
    · cases (execSend_release hp).symm.trans h
      exact .inr (.inr (.inr ⟨l, rfl, hp, rfl⟩))
    · obtain ⟨-, -, hframe, hpseq, hlen, -⟩ := execSend_keeps h
      obtain ⟨-, -, -, hflags⟩ := execSend_registers h
      obtain ⟨hfv, hpv⟩ := hflags hp
      exact .inl ⟨hframe, hfv, hpseq, hlen, hpv⟩

/-- A BUILD writes the template outside bytes 13 and 14. -/
theorem builtFrame_getElem {c : Config} {f : FrameFile} (h : BuiltFrame c f) {k : Nat} (hk : k < 27) (h13 : k ≠ 13)
    (h14 : k ≠ 14) : f[k] = c.template[k] := by
  rcases h with rfl | ⟨m, temp, b14, -, rfl⟩
  · rfl
  · exact onFrame_getElem_of_ne _ _ _ hk h13 h14

theorem withChecksum_getElem_of_ne (f : FrameFile) {k : Nat} (hk : k < 27) (h26 : k ≠ 26) : (withChecksum f)[k] = f[k] :=
  withChecksum_getElem_of_lt f (by omega)

theorem traceableFrame_getElem {c : Config} {f : FrameFile} (h : TraceableFrame c f) {k : Nat} (hk : k < 27) (h13 : k ≠ 13)
    (h14 : k ≠ 14) (h26 : k ≠ 26) : f[k] = c.template[k] := by
  obtain ⟨g, hg, rfl | rfl⟩ := h
  · exact builtFrame_getElem hg hk h13 h14
  · rw [withChecksum_getElem_of_ne g hk h26]
    exact builtFrame_getElem hg hk h13 h14

/-! ### Every command, and every step -/

theorem exec_cfg {i : Instr} {s t : State} (h : exec i s = .next t) : t.cfg = s.cfg := by
  by_cases hsend : ∃ l, i = .send l
  · obtain ⟨l, rfl⟩ := hsend
    obtain ⟨hcfg, -⟩ := execSend_keeps h
    exact hcfg
  · obtain ⟨hcfg, -⟩ := exec_sequencerKeeps (not_exists.1 hsend) h
    exact hcfg

/-- No command removes an event, and only a SEND changes a line, its own. -/
theorem exec_lines {i : Instr} {s t : State} (h : exec i s = .next t) (l : Byte) :
    (lineAt s l).trace <+: (lineAt t l).trace ∧ (lineAt t l ≠ lineAt s l → i = .send l) := by
  by_cases hsend : ∃ m, i = .send m
  · obtain ⟨m, rfl⟩ := hsend
    obtain ⟨-, -, -, -, -, -, -, -, -, hothers, htrace⟩ := execSend_keeps h
    by_cases hl : l = m
    · subst hl
      exact ⟨htrace, fun _ => rfl⟩
    · rw [hothers l hl]
      exact ⟨List.prefix_refl _, fun hne => absurd rfl hne⟩
  · obtain ⟨-, -, -, -, -, -, -, hlines, -⟩ := exec_sequencerKeeps (not_exists.1 hsend) h
    rw [hlines l]
    exact ⟨List.prefix_refl _, fun hne => absurd rfl hne⟩

theorem hostStep_cfg (s : State) : (hostStep s).cfg = s.cfg := by
  rcases hostStep_cases s with e | ⟨w, q, _, e⟩ | ⟨w, q, _, e⟩ | ⟨q, _, e⟩ <;> rw [e] <;> rfl

/-- HOST touches no line but by RESET. -/
theorem lineAt_hostStep {s : State} (h : ∀ q, s.hostPlan ≠ .reset :: q) (l : Byte) : lineAt (hostStep s) l = lineAt s l := by
  rcases hostStep_cases s with e | ⟨w, q, _, e⟩ | ⟨w, q, _, e⟩ | ⟨q, hq, _⟩
  · rw [e]
  · rw [e]; rfl
  · rw [e]; rfl
  · exact absurd hq (h q)

/-- A step of the busy block runs the command in CMD, or fails an illegal word. -/
theorem step_busy_cases {s t : State} (hbusy : s.st = .busy) (h : step s = .next t) :
    (∃ i u, decode s.cmd = .ok i ∧ exec i s = .next u ∧ t = advanceEnv u) ∨
    (∃ e, decode s.cmd = .error e ∧ t = advanceEnv (illegalCommand s)) := by
  rcases step_cases h with ⟨hidle, _⟩ | ⟨i, u, _, hd, hu, ht⟩ | ⟨e, _, hd, ht⟩
  · simp [hbusy] at hidle
  · exact .inl ⟨i, u, hd, hu, ht⟩
  · exact .inr ⟨e, hd, ht⟩

/-- A command that ends Failed keeps the stores and their flags. -/
theorem exec_failure_keeps {i : Instr} {s t : State} (h : exec i s = .next t) (hfail : rspFailed t.rsp = true) :
    DataKept s t := by
  rcases exec_data_cases h with hkept | ⟨f, _, _, rfl⟩ | ⟨_, _, rfl⟩ | ⟨l, _, _, rfl⟩
  · exact hkept
  · exact absurd hfail (by rw [finishBuild_not_failed]; decide)
  · exact absurd hfail (by simp)
  · exact absurd hfail (by simp [sendRelease])

/-- Everything a command does to FRAME. -/
theorem exec_frame_cases {i : Instr} {s t : State} (h : exec i s = .next t) :
    t.frame = s.frame ∨
    ((i = .buildOff ∨ ∃ m b, i = .buildOn m b) ∧ BuiltFrame s.cfg t.frame) ∨
    (i = .encode ∧ t.frame = withChecksum s.frame) := by
  rcases exec_data_cases h with ⟨hframe, -⟩ | ⟨f, hi, hf, rfl⟩ | ⟨hi, _, rfl⟩ | ⟨l, _, _, rfl⟩
  · exact .inl hframe
  · exact .inr (.inl ⟨hi, hf⟩)
  · exact .inr (.inr ⟨hi, rfl⟩)
  · exact .inl rfl

end Sys2Proof.Machine

open Sys2Proof Sys2Proof.Machine

/-- Settles O32: by what each of the four can answer, and what a command does to the stores. -/
theorem sequencerFrame : Obligations.SequencerFrame := by
  refine ⟨fun i s t hi h => exec_sequencerKeeps hi h, fun s t hbuild => ?build, fun a b s t h => ?checksum,
    fun s t h => ?encode⟩
  case build =>
    obtain ⟨i, hi, h⟩ : ∃ i, (i = .buildOff ∨ ∃ m b, i = .buildOn m b) ∧ exec i s = .next t := by
      rcases hbuild with h | ⟨m, b, h⟩
      · exact ⟨_, .inl rfl, h⟩
      · exact ⟨_, .inr ⟨m, b, rfl⟩, h⟩
    rcases exec_data_cases h with ⟨-, -, hpseq, hlen, -⟩ | ⟨f, _, _, rfl⟩ | ⟨rfl, _⟩ | ⟨l, rfl, _⟩
    · exact ⟨hpseq, hlen⟩
    · exact ⟨rfl, rfl⟩
    · simp at hi
    · simp at hi
  case checksum => simpa [DataKept] using exec_data_cases h
  case encode =>
    rcases exec_data_cases h with ⟨hframe, hvalid, -⟩ | ⟨f, hi, _⟩ | ⟨_, _, rfl⟩ | ⟨l, hi, _⟩
    · exact ⟨hvalid, fun k _ => by rw [hframe]⟩
    · simp at hi
    · exact ⟨rfl, fun k hk => withChecksum_getElem_of_lt s.frame hk⟩
    · simp at hi

/-- Settles O33: what SEND keeps in every phase, and what it keeps outside the phase that writes it. -/
theorem sendFrame : Obligations.SendFrame := by
  intro l s t h
  obtain ⟨hcfg, hcmd, hframe, hpseq, hlen, henv, hplan, hhost, hcount, hothers, -⟩ := execSend_keeps h
  exact ⟨hcfg, hcmd, hframe, hpseq, hlen, henv, hplan, hhost, hcount, hothers, execSend_registers h⟩

/-- Settles O34: neither HOST, a command, nor an illegal word writes a parameter. -/
theorem parametersNeverChange : Obligations.ParametersNeverChange := by
  intro s t h
  rcases step_cases h with ⟨_, rfl⟩ | ⟨i, u, _, _, hu, rfl⟩ | ⟨e, _, _, rfl⟩ <;> rw [advanceEnv_cfg]
  · exact hostStep_cfg s
  · exact exec_cfg hu
  · rfl

/-- Settles O35: a traceable frame's bytes, and what a command does to FRAME. -/
theorem onlyThreeFrameBytesVary : Obligations.OnlyThreeFrameBytesVary := by
  refine ⟨fun s hinv hf k hk h13 h14 h26 => traceableFrame_getElem (hinv.frame hf) hk h13 h14 h26,
    fun s t hbusy h k hk h13 h14 h26 => ?bytes, fun s t hbusy h hne => ?writers⟩
  case bytes =>
    rcases step_busy_cases hbusy h with ⟨i, u, _, hu, rfl⟩ | ⟨e, _, rfl⟩ <;> simp only [advanceEnv_frame]
    · rcases exec_frame_cases hu with hframe | ⟨_, hbuilt⟩ | ⟨_, hframe⟩
      · exact .inl (by simp only [hframe])
      · exact .inr (builtFrame_getElem hbuilt hk h13 h14)
      · exact .inl (by simp only [hframe, withChecksum_getElem_of_ne s.frame hk h26])
    · exact .inl rfl
  case writers =>
    rcases step_busy_cases hbusy h with ⟨i, u, hd, hu, rfl⟩ | ⟨e, _, rfl⟩ <;> rw [advanceEnv_frame] at hne
    · rcases exec_frame_cases hu with hframe | ⟨rfl | ⟨m, b, rfl⟩, _⟩ | ⟨rfl, _⟩
      · exact absurd hframe hne
      · exact .inl hd
      · exact .inr (.inl ⟨m, b, hd⟩)
      · exact .inr (.inr hd)
    · exact absurd rfl hne

/-- Settles O36: HOST's moves but RESET and illegal words touch no line, and of the commands SEND its own. -/
theorem tracesOnlyGrow : Obligations.TracesOnlyGrow := by
  intro s t h hreset
  rcases step_cases h with ⟨hidle, rfl⟩ | ⟨i, u, hbusy, hd, hu, rfl⟩ | ⟨e, _, _, rfl⟩ <;> simp only [lineAt_advanceEnv]
  · simp [lineAt_hostStep fun q => hreset q hidle]
  · refine ⟨fun l => ?grows, fun l hne => ⟨hbusy, ?line⟩⟩
    case grows => exact (exec_lines hu l).1
    case line => rw [hd, (exec_lines hu l).2 hne]
  · simp

/-- Settles O39: a command that ends Failed keeps the data, and a SEND that ends leaves the phase OFF. -/
theorem failureKeepsTheData : Obligations.FailureKeepsTheData := by
  intro s t hbusy h hidle hfail
  rcases step_busy_cases hbusy h with ⟨i, u, hd, hu, rfl⟩ | ⟨e, hd, rfl⟩
  · rw [advanceEnv_rsp] at hfail
    rw [advanceEnv_st] at hidle
    obtain ⟨hframe, hfv, hpseq, hlen, hpv⟩ := exec_failure_keeps hu hfail
    refine ⟨by simpa, by simpa, by simpa, by simpa, by simpa, fun l hl => ?_⟩
    obtain rfl : i = .send l := by simpa [hd] using hl
    rw [advanceEnv_txPhase]
    exact (execSend_ends hbusy hu hidle).1
  · simp [hd]

end

/-! ## Proofs: where ENV's inputs are sampled (10_state.md, 60_exceptions.md) -/

section

namespace Sys2Proof.Machine

/-- The state with other levels of ENV's inputs. -/
def setEnv (e : EnvInputs) (s : State) : State := { s with env := e }

/-- The inputs a step of SEND samples have the same level in `s` and under `e` (R116). -/
def SampledAlike (l : Byte) (s : State) (e : EnvInputs) : Prop :=
  (s.txPhase = .off → s.pseqValid = true → lineExists s.cfg l = true →
    (inputsAt (setEnv e s) l).available = (inputsAt s l).available) ∧
  (s.txPhase = .claim → (inputsAt (setEnv e s) l).claimed = (inputsAt s l).claimed) ∧
  (s.txPhase = .configure → (inputsAt (setEnv e s) l).carrierOk = (inputsAt s l).carrierOk) ∧
  (s.txPhase = .emit → drawHwFault (setEnv e s) = drawHwFault s)

/-- The commands of the sequencer sample no input: each outcome's condition is about the state's other fields. -/
theorem exec_env_of_sequencer {i : Instr} {s t : State} (hi : ∀ l, i ≠ .send l) (e : EnvInputs) (h : exec i s = .next t) :
    exec i (setEnv e s) = .next (setEnv e t) := by
  cases i with
  | buildOff => cases h; rfl
  | buildOn mode temp =>
    change execBuildOn mode temp s = .next t at h
    rcases execBuildOn_cases mode temp s with ⟨hm, ho⟩ | ⟨m, hm, hb, ho⟩ | ⟨m, b14, hm, hb, ho⟩ <;> rw [ho] at h <;> cases h
    · exact execBuildOn_of_no_mode temp (setEnv e s) hm
    · exact execBuildOn_of_no_tempByte (s := setEnv e s) hm hb
    · exact execBuildOn_of_tempByte (s := setEnv e s) hm hb
  | checksum a b =>
    change execChecksum a b s = .next t at h
    rcases execChecksum_cases a b s with ⟨hf, ho⟩ | ⟨hf, hr, ho⟩ | ⟨hf, hr, ho⟩ <;> rw [ho] at h <;> cases h
    · exact execChecksum_of_no_frame a b (s := setEnv e s) hf
    · exact execChecksum_of_badRange (s := setEnv e s) hf hr
    · exact (if_pos hf).trans (if_neg (Bool.eq_false_iff.1 hr))
  | encode =>
    change execEncode s = .next t at h
    rcases execEncode_cases s with ⟨hf, ho⟩ | ⟨hf, ho⟩ <;> rw [ho] at h <;> cases h
    · exact execEncode_of_no_frame (s := setEnv e s) hf
    · exact if_pos hf
  | send l => exact absurd rfl (hi l)

/-- Past the 220 places LOAD and EMIT fault (log 8). -/
theorem execSend_load_past {l : Byte} {s : State} (hp : s.txPhase = .load) (hlen : ¬ s.pseqLen.toNat ≤ 220) :
    execSend l s = .fault .noSuchEntry := by
  simp only [execSend, hp, sendLoad, hlen, if_false]

theorem execSend_emit_past {l : Byte} {s : State} (hp : s.txPhase = .emit) (hlt : s.txPtr < s.txLen)
    (hd : drawHwFault s = false) (hk : 220 ≤ s.txPtr.toNat) : execSend l s = .fault .noSuchEntry := by
  simp only [execSend, hp, sendEmit, hlt, hd, readEntry_none _ _ hk, Bool.false_eq_true, if_true, if_false]

/-- Each phase of SEND takes the same outcome when the one input it samples is the same. -/
theorem execSend_env {l : Byte} {s t : State} (e : EnvInputs) (halike : SampledAlike l s e) (h : execSend l s = .next t) :
    execSend l (setEnv e s) = .next (setEnv e t) := by
  obtain ⟨havailable, hclaimed, hcarrier, hdraw⟩ := halike
  cases hp : s.txPhase with
  | off =>
    cases hv : s.pseqValid with
    | false =>
      cases (execSend_of_no_sequence hp hv).symm.trans h
      exact execSend_of_no_sequence (s := setEnv e s) hp hv
    | true =>
      cases hl : lineExists s.cfg l with
      | false =>
        cases (execSend_of_no_line hp hv hl).symm.trans h
        exact execSend_of_no_line (s := setEnv e s) hp hv hl
      | true =>
        cases ha : (inputsAt s l).available with
        | false =>
          cases (execSend_of_unavailable hp hv hl ha).symm.trans h
          exact execSend_of_unavailable (s := setEnv e s) hp hv hl ((havailable hp hv hl).trans ha)
        | true =>
          cases (execSend_admitted hp hv hl ha).symm.trans h
          exact execSend_admitted (s := setEnv e s) hp hv hl ((havailable hp hv hl).trans ha)
  | claim =>
    cases hc : (inputsAt s l).claimed with
    | false =>
      cases (execSend_claim_of_unclaimed hp hc).symm.trans h
      exact execSend_claim_of_unclaimed (s := setEnv e s) hp ((hclaimed hp).trans hc)
    | true =>
      cases (execSend_claim_of_claimed hp hc).symm.trans h
      exact execSend_claim_of_claimed (s := setEnv e s) hp ((hclaimed hp).trans hc)
  | configure =>
    cases hc : (inputsAt s l).carrierOk with
    | false =>
      cases (execSend_configure_of_no_carrier hp hc).symm.trans h
      exact execSend_configure_of_no_carrier (s := setEnv e s) hp ((hcarrier hp).trans hc)
    | true =>
      cases (execSend_configure_of_carrier hp hc).symm.trans h
      exact execSend_configure_of_carrier (s := setEnv e s) hp ((hcarrier hp).trans hc)
  | load =>
    by_cases hlen : s.pseqLen.toNat ≤ 220
    · cases (execSend_load hp hlen).symm.trans h
      exact execSend_load (s := setEnv e s) hp hlen
    · rw [execSend_load_past hp hlen] at h
      cases h
  | emit =>
    by_cases hlt : s.txPtr < s.txLen
    · cases hd : drawHwFault s with
      | false =>
        by_cases hk : s.txPtr.toNat < 220
        · cases (execSend_emit_of_entry hp hlt hd hk).symm.trans h
          exact execSend_emit_of_entry (s := setEnv e s) hp hlt ((hdraw hp).trans hd) hk
        · rw [execSend_emit_past hp hlt hd (not_lt.1 hk)] at h
          cases h
      | true =>
        cases (execSend_emit_of_fault hp hlt hd).symm.trans h
        exact execSend_emit_of_fault (s := setEnv e s) hp hlt ((hdraw hp).trans hd)
    · cases (execSend_emit_done hp hlt).symm.trans h
      exact execSend_emit_done (s := setEnv e s) hp hlt
  | release =>
    cases (execSend_release hp).symm.trans h
    exact execSend_release (s := setEnv e s) hp

end Sys2Proof.Machine

open Sys2Proof Sys2Proof.Machine

/-- Settles O37: the sequencer's commands sample nothing, and each phase of SEND one input. -/
theorem inputsAreSampledOnlyWhereNamed : Obligations.InputsAreSampledOnlyWhereNamed := by
  intro i s t e h halike
  by_cases hsend : ∃ l, i = .send l
  · obtain ⟨l, rfl⟩ := hsend
    exact execSend_env e (halike l rfl) h
  · exact exec_env_of_sequencer (not_exists.1 hsend) e h

end

/-! ## Proofs: the machine's invariant (10_state.md, 20_memory.md, 43_transmission.md) -/

section

namespace Sys2Proof.Machine

/-! ### The entries of a sequence (R23, R49) -/

/-- Every entry of a sequence but the terminator has both its counts in 1..65535. -/
theorem layoutEntry_positive {c : Config} (hc : c.WellFormed) (f : FrameFile) {k : Nat} (hk : k < 219) :
    (layoutEntry c f k).positive := by
  obtain ⟨-, -, -, -, hhdr, hzero, hone, hpause, -⟩ := hc
  have hbit : ∀ i j, (bitEntry c f i j).positive := fun i j => by unfold bitEntry; split <;> assumption
  unfold layoutEntry
  split_ifs
  · exact hhdr
  · exact hbit _ _
  · exact hpause
  · exact hhdr
  · exact hbit _ _
  · exact hone
  · exact hzero
  · omega

/-- What SEND relies on: every entry has a SPACE but the last, which has none, and every MARK lasts. -/
def WellTimed (p : EntryStore) : Prop :=
  (∀ (k : Nat) (h : k < 220), p[k].active ≠ 0) ∧ (∀ (k : Nat) (h : k < 220), p[k].idle = 0 ↔ k = 219)

theorem layout_wellTimed {c : Config} (hc : c.WellFormed) (f : FrameFile) : WellTimed (layout c f) := by
  have hget : ∀ (k : Nat) (h : k < 220), (layout c f)[k] = layoutEntry c f k := fun k h => Vector.getElem_ofFn h
  have hend : layoutEntry c f 219 = ⟨c.tEndActive, 0⟩ := rfl
  obtain ⟨-, -, -, -, -, -, -, -, hendActive, -⟩ := id hc
  refine ⟨fun k h => ?_, fun k h => ?_⟩ <;> rw [hget k h] <;> rcases Nat.lt_succ_iff_lt_or_eq.1 h with hk | rfl
  · exact (layoutEntry_positive hc f hk).1
  · rw [hend]; exact hendActive
  · exact iff_of_false (layoutEntry_positive hc f hk).2 (by omega)
  · rw [hend]; exact iff_of_true rfl rfl

/-- An entry with a MARK that lasts has segments that last (R69). -/
theorem segments_timed {e : Entry} (h : e.active ≠ 0) : ∀ ev ∈ segments e, ev.timed = true := by
  unfold segments
  split
  next => simpa [Event.timed] using h
  next hidle => simpa [Event.timed] using And.intro h hidle

/-- The entries emitted one further. -/
theorem take_succ_flatMap_segments (p : EntryStore) {k : Nat} (hk : k < 220) :
    (p.toList.take (k + 1)).flatMap segments = (p.toList.take k).flatMap segments ++ segments p[k] := by
  rw [List.take_succ_eq_append_getElem (by simpa using hk), List.flatMap_append]
  simp

/-- All segments of a well-timed sequence, between the configuration and the release, are R133's events. -/
theorem signal_eq_sentEvents {p : EntryStore} (h : WellTimed p) :
    [.claim, .config carrier] ++ p.toList.flatMap segments ++ [.release] = sentEvents p := by
  obtain ⟨-, hidle⟩ := h
  have hfull : p.toList.take (219 + 1) = p.toList := List.take_of_length_le (by simp)
  have hspaces : (p.toList.take 219).flatMap segments =
      (p.toList.take 219).flatMap fun e => [.mark e.active, .space e.idle] := by
    refine List.flatMap_congr fun e he => ?_
    obtain ⟨k, hk, rfl⟩ := List.mem_take_iff_getElem.1 he
    have hk : k < 219 := by omega
    rw [Vector.getElem_toList, segments, if_neg ((hidle k (by omega)).not.2 (by omega))]
  have hlast : segments p[219] = [.mark p[219].active] := if_pos ((hidle 219 (by decide)).2 rfl)
  rw [← hfull, take_succ_flatMap_segments p (by decide), hspaces, hlast, sentEvents]
  simp [carrier]

/-! ### The invariant in four parts -/

/-- The port's part: ST, the phase and the response (R27, R68, R116). -/
def PortSound (s : State) : Prop :=
  (s.st = .idle → s.txPhase = .off) ∧ (s.st = .busy → s.rspValid = false) ∧ (s.rspValid = true → LegalResponse s.rsp)

/-- The stores' part: the parameters, FRAME and PSEQ (R17, R25). -/
def DataSound (s : State) : Prop :=
  s.cfg.WellFormed ∧ (s.frameValid = true → TraceableFrame s.cfg s.frame) ∧
  (s.pseqValid = true →
    s.frameValid = true ∧ s.pseqLen = 220 ∧ s.frame = withChecksum s.frame ∧ s.pseq.toList = sequenceOf s.cfg s.frame)

/-- What holds of line `l` whatever the transmitter does (R31, R32, R118). -/
structure LineSound (c : Config) (l : Byte) (x : Line) : Prop where
  level : x.level = .low
  lineCfg : x.lineCfg = none ∨ x.lineCfg = some carrier
  absent : lineExists c l = false → x = Line.reset
  durations : ∀ e ∈ x.trace, e.timed = true

/-- The lines' part. -/
def LinesSound (s : State) : Prop := ∀ l, LineSound s.cfg l (lineAt s l)

/-- The transmitter's part: the SEND in flight, its line and its copy of the sequence (R28, R53, R54). -/
structure TxSound (s : State) : Prop where
  inFlight : s.txPhase ≠ .off → s.pseqValid = true ∧ decode s.cmd = .ok (.send s.txLine) ∧ lineExists s.cfg s.txLine = true
  owned : ∀ l, (lineAt s l).owned = true ↔ l = s.txLine ∧ s.txPhase.holdsLine = true
  configured : (s.txPhase = .load ∨ s.txPhase = .emit ∨ s.txPhase = .release) → (lineAt s s.txLine).lineCfg = some carrier
  loaded : (s.txPhase = .emit ∨ s.txPhase = .release) → s.txLen = 220 ∧ s.txbuf = s.pseq
  pointer : s.txPhase = .emit → s.txPtr.toNat < 220
  allEmitted : s.txPhase = .release → s.txPtr = 220
  trace : s.txPhase.holdsLine = true → signalSoFar s <:+ (lineAt s s.txLine).trace

theorem machineInv_iff (s : State) : MachineInv s ↔ PortSound s ∧ DataSound s ∧ LinesSound s ∧ TxSound s := by
  constructor
  · intro h
    exact ⟨⟨h.idleOff, h.busyNoResponse, h.response⟩, ⟨h.params, h.frame, h.sequence⟩,
      fun l => ⟨h.level l, h.lineCfg l, h.absent l, h.durations l⟩,
      ⟨h.inFlight, h.owned, h.configured, h.loaded, h.pointer, h.allEmitted, h.trace⟩⟩
  · rintro ⟨⟨hidle, hbusy, hrsp⟩, ⟨hparams, hframe, hseq⟩, hlines, htx⟩
    exact {
      params := hparams, idleOff := hidle, busyNoResponse := hbusy, response := hrsp, frame := hframe, sequence := hseq
      level := fun l => (hlines l).level
      lineCfg := fun l => (hlines l).lineCfg
      absent := fun l => (hlines l).absent
      durations := fun l => (hlines l).durations
      inFlight := htx.inFlight, owned := htx.owned, configured := htx.configured, loaded := htx.loaded
      pointer := htx.pointer, allEmitted := htx.allEmitted, trace := htx.trace }

/-- No line is owned: what holds between a release and the next claim (R53). -/
def NoLineOwned (s : State) : Prop := ∀ l, (lineAt s l).owned = false

/-- Nothing is asked of a transmitter at rest but that it owns no line. -/
theorem txSound_of_off {s : State} (hp : s.txPhase = .off) (hown : NoLineOwned s) : TxSound s where
  inFlight := fun h => absurd hp h
  owned := fun l => by rw [hown l, hp]; simp [TxPhase.holdsLine]
  configured := by simp [hp]
  loaded := by simp [hp]
  pointer := by simp [hp]
  allEmitted := by simp [hp]
  trace := by simp [hp, TxPhase.holdsLine]

theorem MachineInv.noLineOwned {s : State} (h : MachineInv s) (hp : s.txPhase.holdsLine = false) : NoLineOwned s :=
  fun l => Bool.eq_false_iff.2 fun ho => by simpa [hp] using (h.owned l).1 ho

/-- An operation that ends leaves an idle block with a legal response. -/
theorem machineInv_respond {w : HalfWord} {s : State} (hw : LegalResponse w) (hp : s.txPhase = .off) (hdata : DataSound s)
    (hlines : LinesSound s) (hown : NoLineOwned s) : MachineInv (respond w s) :=
  (machineInv_iff _).2 ⟨⟨fun _ => hp, fun h => absurd h (by simp), fun _ => hw⟩, hdata, hlines, txSound_of_off hp hown⟩

/-- A step inside an operation leaves a busy block with no response. -/
theorem machineInv_of_busy {s : State} (hbusy : s.st = .busy) (hv : s.rspValid = false) (hdata : DataSound s)
    (hlines : LinesSound s) (htx : TxSound s) : MachineInv s :=
  (machineInv_iff _).2 ⟨⟨fun h => by simp [hbusy] at h, fun _ => hv, fun h => by simp [hv] at h⟩, hdata, hlines, htx⟩

theorem MachineInv.data {s : State} (h : MachineInv s) : DataSound s := ⟨h.params, h.frame, h.sequence⟩

theorem MachineInv.lines {s : State} (h : MachineInv s) : LinesSound s :=
  fun l => ⟨h.level l, h.lineCfg l, h.absent l, h.durations l⟩

theorem machineInv_advanceEnv {s : State} (h : MachineInv s) : MachineInv (advanceEnv s) := by
  unfold advanceEnv
  split
  · exact h
  · exact { h with }

/-! ### RESET and HOST's moves -/

theorem machineInv_resetTo {c : Config} (hc : c.WellFormed) (n : Nat) (env : EnvInputs) (plan : List EnvInputs)
    (q : List HostMove) : MachineInv (State.resetTo c n env plan q) := by
  have hline : ∀ l, lineAt (State.resetTo c n env plan q) l = Line.reset := lineAt_resetTo c n env plan q
  refine (machineInv_iff _).2 ⟨⟨fun _ => rfl, fun _ => rfl, fun h => by simp at h⟩,
    ⟨hc, fun h => by simp at h, fun h => by simp at h⟩, fun l => ?_, txSound_of_off rfl fun l => by rw [hline]; rfl⟩
  rw [hline]
  exact ⟨rfl, .inl rfl, fun _ => rfl, fun e he => by simp [Line.reset] at he⟩

theorem machineInv_hostStep {s : State} (h : MachineInv s) (hidle : s.st = .idle) : MachineInv (hostStep s) := by
  have hoff : s.txPhase = .off := h.idleOff hidle
  have hown : NoLineOwned s := h.noLineOwned (by rw [hoff]; rfl)
  rcases hostStep_cases s with e | ⟨w, q, _, e⟩ | ⟨w, q, _, e⟩ | ⟨q, _, e⟩ <;> rw [e]
  · exact h
  · exact machineInv_of_busy rfl rfl h.data h.lines (txSound_of_off hoff hown)
  · exact { h with }
  · exact machineInv_resetTo h.params _ _ _ _

/-! ### The sequencer's commands -/

/-- A BUILD leaves a built frame and no sequence. -/
theorem dataSound_build {s : State} (h : DataSound s) {f : FrameFile} (hf : BuiltFrame s.cfg f) :
    DataSound (frameBuilt (writeFrame f s)) := by
  obtain ⟨hc, -⟩ := h
  exact ⟨hc, fun _ => ⟨f, hf, .inl rfl⟩, fun hv => absurd hv (by simp)⟩

theorem withChecksum_idem (f : FrameFile) : withChecksum (withChecksum f) = withChecksum f := withChecksum_set26 f _

theorem traceableFrame_withChecksum {c : Config} {f : FrameFile} (h : TraceableFrame c f) :
    TraceableFrame c (withChecksum f) := by
  obtain ⟨g, hg, rfl | rfl⟩ := h
  · exact ⟨f, hg, .inr rfl⟩
  · exact ⟨g, hg, .inr (withChecksum_idem g)⟩

/-- ENCODE leaves the checksum in the frame and the frame's sequence in PSEQ. -/
theorem dataSound_encode {s : State} (h : DataSound s) (hf : s.frameValid = true) : DataSound (sequenceBuilt
    (writeSequence (sequenceOf s.cfg s.frame) (writeFrame (withChecksum s.frame) s))) := by
  obtain ⟨hc, hframe, -⟩ := h
  refine ⟨hc, fun _ => traceableFrame_withChecksum (hframe hf), fun _ => ⟨hf, ?_, (withChecksum_idem _).symm, ?_⟩⟩
  · simp
  · exact (overlay_full _ _ (sequenceOf_length _ _)).trans (sequenceOf_set26 _ _ _).symm

end Sys2Proof.Machine

end

/-! ## Proofs: every step keeps the invariant, and none stops (43_transmission.md, 60_exceptions.md) -/

section

namespace Sys2Proof.Machine

/-! ### Lines under SEND -/

/-- An existing line stays sound when events that last are appended, whatever becomes of its claim. -/
theorem linesSound_append {s : State} {l : Byte} {x : Line} {evs : List Event} (h : LinesSound s)
    (hl : lineExists s.cfg l = true) (hcfg : x.lineCfg = (lineAt s l).lineCfg ∨ x.lineCfg = some carrier)
    (htrace : x.trace = (lineAt s l).trace) (hevs : ∀ e ∈ evs, e.timed = true) :
    LinesSound (setLine l (lineAfter evs x) s) := by
  intro m
  rw [lineAt_setLine]
  split
  next hm =>
    subst hm
    refine ⟨rfl, ?_, fun habsent => absurd (hl.symm.trans habsent) (by decide), fun e he => ?_⟩
    · rcases hcfg with hsame | hcarrier
      · exact hsame ▸ (h m).lineCfg
      · exact .inr hcarrier
    · rw [lineAfter_trace, htrace, List.mem_append] at he
      exact he.elim ((h m).durations e) (hevs e)
  next => exact h m

theorem linesSound_claimLine {s : State} {l : Byte} (h : LinesSound s) (hl : lineExists s.cfg l = true) :
    LinesSound (claimLine l s) :=
  linesSound_append h hl (.inl rfl) rfl (by decide)

theorem linesSound_configureLine {s : State} {l : Byte} (h : LinesSound s) (hl : lineExists s.cfg l = true) :
    LinesSound (configureLine l s) :=
  linesSound_append h hl (.inr rfl) rfl (by decide)

theorem linesSound_releaseLine {s : State} {l : Byte} (h : LinesSound s) (hl : lineExists s.cfg l = true) :
    LinesSound (releaseLine l s) :=
  linesSound_append h hl (.inl rfl) rfl (by decide)

/-- After a release no line is owned: the one released was the only one. -/
theorem MachineInv.noLineOwned_releaseLine {s : State} (h : MachineInv s) : NoLineOwned (releaseLine s.txLine s) := by
  intro m
  rw [releaseLine_eq, lineAt_setPhase, lineAt_setLine]
  split
  next => rfl
  next hm => exact Bool.eq_false_iff.2 fun ho => hm ((h.owned m).1 ho).1

/-! ### SEND, transition by transition -/

/-- The line of a SEND in flight is TX_LINE. -/
theorem MachineInv.line_eq {s : State} {l : Byte} (h : MachineInv s) (hp : s.txPhase ≠ .off)
    (hd : decode s.cmd = .ok (.send l)) : l = s.txLine := by
  obtain ⟨-, hd', -⟩ := h.inFlight hp
  simpa [hd] using hd'

/-- With no SEND in CMD the transmitter is at rest. -/
theorem MachineInv.off_of_no_send {s : State} (h : MachineInv s) (hd : ∀ l, decode s.cmd ≠ .ok (.send l)) :
    s.txPhase = .off := by
  by_contra hp
  obtain ⟨-, hcmd, -⟩ := h.inFlight hp
  exact hd s.txLine hcmd

/-- An existing line is admitted: nothing is claimed yet (R119). -/
theorem txSound_admitted {s : State} {l : Byte} (hinv : MachineInv s) (hd : decode s.cmd = .ok (.send l))
    (hp : s.txPhase = .off) (hv : s.pseqValid = true) (hl : lineExists s.cfg l = true) :
    TxSound (setPhase .claim (setTxLine l s)) where
  inFlight := fun _ => ⟨hv, hd, hl⟩
  owned := fun m => by
    have hown : NoLineOwned s := hinv.noLineOwned (by rw [hp]; rfl)
    simp [hown m, TxPhase.holdsLine]
  configured := by simp
  loaded := by simp
  pointer := by simp
  allEmitted := by simp
  trace := by simp [TxPhase.holdsLine]

/-- The claim makes TX_LINE the one line owned, and CLAIM is what SEND has appended (R120). -/
theorem txSound_claimed {s : State} (hinv : MachineInv s) (hp : s.txPhase = .claim) :
    TxSound (setPhase .configure (claimLine s.txLine s)) where
  inFlight := fun _ => hinv.inFlight (by simp [hp])
  owned := fun m => by
    have hown : NoLineOwned s := hinv.noLineOwned (by rw [hp]; rfl)
    by_cases hm : m = s.txLine <;> simp [hm, hown m, TxPhase.holdsLine]
  configured := by simp
  loaded := by simp
  pointer := by simp
  allEmitted := by simp
  trace := fun _ => by
    simp [signalSoFar]

/-- Within the phases that hold the line, ownership does not change. -/
theorem MachineInv.owned_of_holdsLine {s : State} (h : MachineInv s) (hp : s.txPhase.holdsLine = true) (m : Byte) :
    (lineAt s m).owned = true ↔ m = s.txLine := by
  rw [h.owned m, and_iff_left hp]

/-- The configuration is the line's, and CONFIG is appended (R121). -/
theorem txSound_configured {s : State} (hinv : MachineInv s) (hp : s.txPhase = .configure) :
    TxSound (setPhase .load (configureLine s.txLine s)) where
  inFlight := fun _ => hinv.inFlight (by simp [hp])
  owned := fun m => by
    have hown := hinv.owned_of_holdsLine (by rw [hp]; rfl) m
    by_cases hm : m = s.txLine
    · subst hm; simpa [TxPhase.holdsLine] using hown
    · simpa [hm, TxPhase.holdsLine] using hown
  configured := fun _ => by simp
  loaded := by simp
  pointer := by simp
  allEmitted := by simp
  trace := fun _ => by
    have htrace : [.claim] <:+ (lineAt s s.txLine).trace := by simpa [signalSoFar, hp] using hinv.trace (by rw [hp]; rfl)
    simpa [signalSoFar] using List.suffix_append_self_iff.2 htrace

/-- With a valid sequence LOAD's copy is all of PSEQ (R122). -/
theorem loadTxbuf_txbuf_of_full {s : State} (hlen : s.pseqLen = 220) : (loadTxbuf s).txbuf = s.pseq := by
  refine Vector.ext fun k hk => ?_
  rw [loadTxbuf_getElem s hk, hlen, if_pos (by simpa using hk)]

/-- LOAD copies the sequence and appends nothing (R122). -/
theorem txSound_loaded {s : State} (hinv : MachineInv s) (hp : s.txPhase = .load) :
    TxSound (setPhase .emit (loadTxbuf s)) where
  inFlight := fun _ => hinv.inFlight (by simp [hp])
  owned := fun m => by simpa [TxPhase.holdsLine] using hinv.owned_of_holdsLine (by rw [hp]; rfl) m
  configured := fun _ => hinv.configured (.inl hp)
  loaded := fun _ => by
    obtain ⟨hv, -⟩ := hinv.inFlight (by simp [hp])
    have hlen := hinv.pseqLen_eq hv
    exact ⟨hlen, loadTxbuf_txbuf_of_full hlen⟩
  pointer := fun _ => by simp
  allEmitted := by simp
  trace := fun _ => by simpa [signalSoFar, hp] using hinv.trace (by rw [hp]; rfl)

/-- The sequence of a SEND in flight is the one R49 draws, so it is well timed. -/
theorem MachineInv.pseq_eq {s : State} (h : MachineInv s) (hv : s.pseqValid = true) : s.pseq = layout s.cfg s.frame := by
  obtain ⟨-, -, -, hseq⟩ := h.sequence hv
  exact store_ext (hseq.trans (toList_layout _ _).symm)

theorem MachineInv.wellTimed {s : State} (h : MachineInv s) (hv : s.pseqValid = true) : WellTimed s.pseq :=
  h.pseq_eq hv ▸ layout_wellTimed h.params s.frame

/-- After an entry the phase is EMIT before the last of the 220 and RELEASE after it, as only the last one's idle count is 0. -/
theorem MachineInv.emitEntry_phase {s : State} (h : MachineInv s) (hp : s.txPhase = .emit) (hk : s.txPtr.toNat < 220)
    (l : Byte) : (emitEntry l s.txbuf[s.txPtr.toNat] s).txPhase = if s.txPtr.toNat = 219 then .release else .emit := by
  obtain ⟨hv, -⟩ := h.inFlight (by simp [hp])
  obtain ⟨hlen, hbuf⟩ := h.loaded (.inl hp)
  obtain ⟨-, hidle⟩ := h.wellTimed hv
  have hlt : s.txPtr < s.txLen := by rw [hlen, BitVec.lt_def]; exact hk
  have hlast : s.txPtr.toNat + 1 = s.txLen.toNat ↔ s.txPtr.toNat = 219 := by rw [hlen]; simp
  rw [emitEntry_txPhase hk hlt, hbuf]
  simp only [hidle _ hk, hlast, or_self]

/-- In EMIT and RELEASE the SEND has appended the segments of the entries before TX_PTR (R116). -/
theorem signalSoFar_of_emitting {s : State} (hp : s.txPhase = .emit ∨ s.txPhase = .release) :
    signalSoFar s = [.claim, .config carrier] ++ (s.txbuf.toList.take s.txPtr.toNat).flatMap segments := by
  rcases hp with hp | hp <;> rw [signalSoFar, hp]

theorem lineAt_emitEntry (l m : Byte) (e : Entry) (s : State) :
    lineAt (emitEntry l e s) m = if m = l then lineAfter (segments e) (lineAt s l) else lineAt s m := by
  simp [emitEntry]

@[simp] theorem emitEntry_txLine (l : Byte) (e : Entry) (s : State) : (emitEntry l e s).txLine = s.txLine := rfl

@[simp] theorem emitEntry_txbuf (l : Byte) (e : Entry) (s : State) : (emitEntry l e s).txbuf = s.txbuf := rfl

/-- An entry's segments are appended, and TX_PTR counts the entries (R123). -/
theorem txSound_emitted {s : State} (hinv : MachineInv s) (hp : s.txPhase = .emit) (hk : s.txPtr.toNat < 220) :
    TxSound (emitEntry s.txLine s.txbuf[s.txPtr.toNat] s) := by
  have hphase := hinv.emitEntry_phase hp hk s.txLine
  have hptr : (emitEntry s.txLine s.txbuf[s.txPtr.toNat] s).txPtr.toNat = s.txPtr.toNat + 1 := txPtr_succ hk
  obtain ⟨hcfg, htrace, -⟩ := lineGrown_emitEntry s.txLine s.txbuf[s.txPtr.toNat] s
  have hemitting : (emitEntry s.txLine s.txbuf[s.txPtr.toNat] s).txPhase = .emit ∨
      (emitEntry s.txLine s.txbuf[s.txPtr.toNat] s).txPhase = .release := by
    rw [hphase]; split <;> simp
  have hholds : (emitEntry s.txLine s.txbuf[s.txPtr.toNat] s).txPhase.holdsLine = true := by
    rcases hemitting with h | h <;> rw [h] <;> rfl
  exact {
    inFlight := fun _ => hinv.inFlight (by simp [hp])
    owned := fun m => by
      have hown := hinv.owned_of_holdsLine (by rw [hp]; rfl) m
      rw [and_iff_left hholds, lineAt_emitEntry]
      split
      next hm => subst hm; exact hown
      next => exact hown
    configured := fun _ => by
      rw [emitEntry_txLine, hcfg]
      exact hinv.configured (.inr (.inl hp))
    loaded := fun _ => hinv.loaded (.inl hp)
    pointer := fun h => by
      rw [hptr]
      rw [hphase] at h
      split at h
      next => cases h
      next => omega
    allEmitted := fun h => by
      rw [hphase] at h
      split at h
      next hlast => exact BitVec.eq_of_toNat_eq (by rw [hptr, hlast]; rfl)
      next => cases h
    trace := fun _ => by
      have hsofar := hinv.trace (by rw [hp]; rfl)
      rw [signalSoFar_of_emitting (.inl hp)] at hsofar
      rw [signalSoFar_of_emitting hemitting, hptr, emitEntry_txbuf, emitEntry_txLine, htrace,
        take_succ_flatMap_segments s.txbuf hk, ← List.append_assoc]
      exact List.suffix_append_self_iff.2 hsofar }

/-! ### Every command -/

theorem linesSound_emitEntry {s : State} (hinv : MachineInv s) (hp : s.txPhase = .emit) (hk : s.txPtr.toNat < 220) :
    LinesSound (emitEntry s.txLine s.txbuf[s.txPtr.toNat] s) := by
  obtain ⟨hv, -, hl⟩ := hinv.inFlight (by simp [hp])
  obtain ⟨-, hbuf⟩ := hinv.loaded (.inl hp)
  obtain ⟨hactive, -⟩ := hinv.wellTimed hv
  have htimed : ∀ ev ∈ segments s.txbuf[s.txPtr.toNat], ev.timed = true := segments_timed (by rw [hbuf]; exact hactive _ hk)
  exact linesSound_append hinv.lines hl (.inl rfl) rfl htimed

/-- A command that fails with the transmitter at rest. -/
theorem machineInv_refused {s : State} (hinv : MachineInv s) (hp : s.txPhase = .off) (c : Cause) :
    MachineInv (raiseFailed c s) :=
  machineInv_respond (failedWord_legal c) hp hinv.data hinv.lines (hinv.noLineOwned (by rw [hp]; rfl))

/-- A SEND that gives its line back and fails (R129). -/
theorem machineInv_released {s : State} (hinv : MachineInv s) (hp : s.txPhase ≠ .off) (c : Cause) :
    MachineInv (raiseFailed c (releaseLine s.txLine s)) := by
  obtain ⟨-, -, hl⟩ := hinv.inFlight hp
  exact machineInv_respond (failedWord_legal c) rfl hinv.data (linesSound_releaseLine hinv.lines hl) hinv.noLineOwned_releaseLine

/-- A SEND that is Sent (R125). -/
theorem machineInv_sent {s : State} (hinv : MachineInv s) (hp : s.txPhase ≠ .off) : MachineInv (sendRelease s.txLine s) := by
  obtain ⟨-, -, hl⟩ := hinv.inFlight hp
  exact machineInv_respond (okWord_legal 0) rfl ⟨hinv.params, fun h => absurd h (by simp), fun h => absurd h (by simp)⟩
    (linesSound_releaseLine hinv.lines hl) hinv.noLineOwned_releaseLine

/-- Admission keeps the invariant. -/
theorem machineInv_sendAdmit {l : Byte} {s : State} (hinv : MachineInv s) (hbusy : s.st = .busy)
    (hd : decode s.cmd = .ok (.send l)) (hp : s.txPhase = .off) : MachineInv (sendAdmit l s) := by
  unfold sendAdmit
  split
  next hv =>
    split
    next hl =>
      split
      next =>
        exact machineInv_of_busy hbusy (hinv.busyNoResponse hbusy) hinv.data hinv.lines (txSound_admitted hinv hd hp hv hl)
      next => exact machineInv_respond (failedWord_legal _) hp hinv.data hinv.lines (hinv.noLineOwned (by rw [hp]; rfl))
    next => exact machineInv_refused hinv hp _
  next => exact machineInv_refused hinv hp _

/-- Each phase of SEND keeps the invariant. -/
theorem machineInv_execSend {l : Byte} {s t : State} (hinv : MachineInv s) (hbusy : s.st = .busy)
    (hd : decode s.cmd = .ok (.send l)) (h : execSend l s = .next t) : MachineInv t := by
  by_cases hoff : s.txPhase = .off
  · obtain rfl : sendAdmit l s = t := by simpa [execSend, hoff] using h
    exact machineInv_sendAdmit hinv hbusy hd hoff
  have hv := hinv.busyNoResponse hbusy
  obtain rfl := hinv.line_eq hoff hd
  obtain ⟨-, -, hl⟩ := hinv.inFlight hoff
  rcases execSend_cases h with ⟨hp, _⟩ | ⟨hp, _⟩ | ⟨hp, _⟩ | ⟨hp, _⟩ | ⟨hp, rfl⟩ | ⟨hp, rfl⟩ |
    ⟨hp, rfl⟩ | ⟨hp, rfl⟩ | ⟨hp, _, rfl⟩ | ⟨hp, _, _, rfl⟩ | ⟨hp, _, _, hk, rfl⟩ | ⟨hp, hge, rfl⟩ | ⟨hp, rfl⟩
  · exact absurd hp hoff
  · exact absurd hp hoff
  · exact absurd hp hoff
  · exact absurd hp hoff
  · exact machineInv_respond (failedWord_legal _) rfl hinv.data hinv.lines (hinv.noLineOwned (by rw [hp]; rfl))
  · exact machineInv_of_busy hbusy hv hinv.data (linesSound_claimLine hinv.lines hl) (txSound_claimed hinv hp)
  · exact machineInv_of_busy hbusy hv hinv.data (linesSound_configureLine hinv.lines hl) (txSound_configured hinv hp)
  · exact machineInv_released hinv hoff _
  · exact machineInv_of_busy hbusy hv hinv.data hinv.lines (txSound_loaded hinv hp)
  · exact machineInv_released hinv hoff _
  · exact machineInv_of_busy hbusy hv hinv.data (linesSound_emitEntry hinv hp hk) (txSound_emitted hinv hp hk)
  · obtain ⟨hlen, -⟩ := hinv.loaded (.inl hp)
    exact absurd (BitVec.lt_def.2 (by rw [hlen]; exact hinv.pointer hp)) hge
  · exact machineInv_sent hinv hoff

/-- The sequencer's commands run with the transmitter at rest, touch no line and end with a response. -/
theorem machineInv_exec {i : Instr} {s t : State} (hinv : MachineInv s) (hbusy : s.st = .busy) (hd : decode s.cmd = .ok i)
    (h : exec i s = .next t) : MachineInv t := by
  by_cases hsend : ∃ l, i = .send l
  · obtain ⟨l, rfl⟩ := hsend
    exact machineInv_execSend hinv hbusy hd h
  have hoff : s.txPhase = .off := hinv.off_of_no_send fun l hl => hsend ⟨l, by simpa [hd] using hl⟩
  have hown : NoLineOwned s := hinv.noLineOwned (by rw [hoff]; rfl)
  cases i with
  | buildOff =>
    cases h
    exact machineInv_respond (okWord_legal 0) hoff (dataSound_build hinv.data (.inl rfl)) hinv.lines hown
  | buildOn mode temp =>
    change execBuildOn mode temp s = .next t at h
    rcases execBuildOn_cases mode temp s with ⟨_, e⟩ | ⟨_, _, _, e⟩ | ⟨m, b14, _, hb, e⟩ <;> rw [e] at h <;> cases h
    · exact machineInv_refused hinv hoff _
    · exact machineInv_refused hinv hoff _
    · exact machineInv_respond (okWord_legal 0) hoff (dataSound_build hinv.data (.inr ⟨m, temp, b14, hb, rfl⟩)) hinv.lines hown
  | checksum a b =>
    change execChecksum a b s = .next t at h
    rcases execChecksum_cases a b s with ⟨_, e⟩ | ⟨_, _, e⟩ | ⟨_, _, e⟩ <;> rw [e] at h <;> cases h
    · exact machineInv_refused hinv hoff _
    · exact machineInv_refused hinv hoff _
    · exact machineInv_respond (okWord_legal _) hoff hinv.data hinv.lines hown
  | encode =>
    change execEncode s = .next t at h
    rcases execEncode_cases s with ⟨_, e⟩ | ⟨hf, e⟩ <;> rw [e] at h <;> cases h
    · exact machineInv_refused hinv hoff _
    · exact machineInv_respond (okWord_legal 220) hoff (dataSound_encode hinv.data hf) hinv.lines hown
  | send l => exact absurd ⟨l, rfl⟩ hsend

/-- Every step keeps the invariant. -/
theorem machineInv_step {s t : State} (hinv : MachineInv s) (h : step s = .next t) : MachineInv t := by
  rcases step_cases h with ⟨hidle, rfl⟩ | ⟨i, u, hbusy, hd, hu, rfl⟩ | ⟨e, hbusy, hd, rfl⟩ <;> refine machineInv_advanceEnv ?_
  · exact machineInv_hostStep hinv hidle
  · exact machineInv_exec hinv hbusy hd hu
  · exact machineInv_refused hinv (hinv.off_of_no_send fun l hl => by simp [hd] at hl) _

/-! ### Progress -/

/-- SEND answers a next state when LOAD's length and EMIT's pointer name places that exist (log 8). -/
theorem execSend_progress (l : Byte) {s : State} (hload : s.txPhase = .load → s.pseqLen.toNat ≤ 220)
    (hemit : s.txPhase = .emit → s.txPtr.toNat < 220) : ∃ t, execSend l s = .next t := by
  cases hp : s.txPhase with
  | off => exact ⟨sendAdmit l s, by simp only [execSend, hp]⟩
  | claim => exact ⟨sendClaim l s, by simp only [execSend, hp]⟩
  | configure => exact ⟨sendConfigure l s, by simp only [execSend, hp]⟩
  | load => exact ⟨_, execSend_load hp (hload hp)⟩
  | emit =>
    by_cases hlt : s.txPtr < s.txLen
    · cases hd : drawHwFault s with
      | true => exact ⟨_, execSend_emit_of_fault hp hlt hd⟩
      | false => exact ⟨_, execSend_emit_of_entry hp hlt hd (hemit hp)⟩
    · exact ⟨_, execSend_emit_done hp hlt⟩
  | release => exact ⟨_, execSend_release hp⟩

theorem exec_progress {s : State} (hinv : MachineInv s) (i : Instr) : ∃ t, exec i s = .next t := by
  cases i with
  | buildOff => exact ⟨_, execBuildOff_eq s⟩
  | buildOn mode temp => exact ⟨_, rfl⟩
  | checksum a b => rcases execChecksum_cases a b s with ⟨_, e⟩ | ⟨_, _, e⟩ | ⟨_, _, e⟩ <;> exact ⟨_, e⟩
  | encode => rcases execEncode_cases s with ⟨_, e⟩ | ⟨_, e⟩ <;> exact ⟨_, e⟩
  | send l =>
    refine execSend_progress l (fun hp => ?_) hinv.pointer
    obtain ⟨hv, -⟩ := hinv.inFlight (by simp [hp])
    rw [hinv.pseqLen_eq hv]
    decide

end Sys2Proof.Machine

open Sys2Proof Sys2Proof.Machine

/-- Settles O42: HOST's moves, the sequencer's commands and each phase of SEND keep the invariant's four parts. -/
theorem stepKeepsInvariant : Obligations.StepKeepsInvariant := fun _ _ => machineInv_step

/-- Settles O41: reset leaves nothing in flight, no valid data and untouched lines. -/
theorem resetMeetsInvariant : Obligations.ResetMeetsInvariant := machineInv_resetTo machine_wellFormed _ _ _ _

/-- Settles O43: the invariant keeps LOAD and EMIT within the 220 places, and nothing else faults. -/
theorem invariantStateStepsOn : Obligations.InvariantStateStepsOn := by
  intro s hinv
  cases hst : s.st with
  | idle => exact ⟨_, step_idle hst⟩
  | busy =>
    cases hd : decode s.cmd with
    | error e => exact ⟨_, step_illegal hst hd⟩
    | ok i =>
      obtain ⟨t, ht⟩ := exec_progress hinv i
      exact ⟨advanceEnv t, by rw [step_busy hst hd, ht]; rfl⟩

/-- Settles O40: only RELEASE ends with a success, and by then the trace ends with all the sequence's segments. -/
theorem sentMeansEmitted : Obligations.SentMeansEmitted := by
  intro s t l hinv hbusy hd hstep hidle hok
  rw [step_busy hbusy hd] at hstep
  obtain ⟨u, hu, rfl⟩ := afterStep_next hstep
  rw [advanceEnv_st] at hidle
  rw [advanceEnv_rsp] at hok ⊢
  rw [lineAt_advanceEnv]
  obtain ⟨-, ⟨-, c, hc⟩ | ⟨hp, rfl⟩⟩ := execSend_ends hbusy hu hidle
  · rw [hc, rspFailed_failedWord] at hok
    cases hok
  obtain rfl := hinv.line_eq (by simp [hp]) hd
  obtain ⟨hv, -⟩ := hinv.inFlight (by simp [hp])
  obtain ⟨-, hbuf⟩ := hinv.loaded (.inr hp)
  obtain ⟨hown, -, -, htrace, -⟩ : LineReleased s.txLine s (sendRelease s.txLine s) := lineReleased_of_lines rfl
  have hsofar := hinv.trace (by rw [hp]; rfl)
  have hall : s.txbuf.toList.take s.txPtr.toNat = s.pseq.toList := by
    rw [hbuf, hinv.allEmitted hp]
    exact List.take_of_length_le (by simp)
  rw [signalSoFar_of_emitting (.inr hp), hall] at hsofar
  refine ⟨?_, hown, rfl⟩
  rw [htrace, ← signal_eq_sentEvents (hinv.wellTimed hv)]
  exact List.suffix_append_self_iff.2 hsofar

end

/-! ## Proofs: a whole transmission (43_transmission.md, 30_encoding.md) -/

section

namespace Sys2Proof.Machine

/-! ### Runs -/

/-- A run of `a + b` steps is a run of `a` and then one of `b`. -/
theorem run_add {a b : Nat} {s t : State} (h : core.run a s = .next t) : core.run (a + b) s = core.run b t := by
  induction a generalizing s with
  | zero =>
    obtain rfl : s = t := Host.Outcome.next.inj h
    rw [Nat.zero_add]
  | succ a ih =>
    rw [Nat.succ_add]
    cases hs : core.step s with
    | next u =>
      simp only [Host.Core.run, hs] at h ⊢
      exact ih h
    | fault r => simp only [Host.Core.run, hs] at h; cases h
    | refused r => simp only [Host.Core.run, hs] at h; cases h

theorem run_one {s t : State} (h : step s = .next t) : core.run 1 s = .next t := by
  have hcore : core.step s = .next t := h
  simp only [Host.Core.run, hcore]

/-! ### A line that stays free (95_test_vectors.md section 0) -/

/-- Line `l` is free and no fault is drawn, in this step and in all to come. -/
def StaysFree (l : Byte) (s : State) : Prop :=
  ∀ e ∈ s.env :: s.envPlan, lineFree e l = true ∧ (s.cfg.hwFaultModel = .any → e.hwFault = false)

theorem StaysFree.inputs {l : Byte} {s : State} (h : StaysFree l s) :
    (inputsAt s l).available = true ∧ (inputsAt s l).claimed = false ∧ (inputsAt s l).carrierOk = true := by
  obtain ⟨hfree, -⟩ := h s.env List.mem_cons_self
  simpa [lineFree, inputsAt, and_assoc] using hfree

theorem StaysFree.no_fault {l : Byte} {s : State} (h : StaysFree l s) : drawHwFault s = false := by
  obtain ⟨-, hfault⟩ := h s.env List.mem_cons_self
  unfold drawHwFault
  split
  next => rfl
  next hany => exact hfault hany

/-- ENV's inputs move on within its plan. -/
theorem StaysFree.advance {l : Byte} {s u : State} (h : StaysFree l s) (hcfg : u.cfg = s.cfg) (henv : u.env = s.env)
    (hplan : u.envPlan = s.envPlan) : StaysFree l (advanceEnv u) := by
  have hu : StaysFree l u := by rw [StaysFree, hcfg, henv, hplan]; exact h
  unfold advanceEnv
  split
  next => exact hu
  next e es hes => exact fun e' he' => hu e' (List.mem_cons_of_mem _ (hes ▸ he'))

/-! ### A SEND under way on a free line -/

/-- A SEND on line `l` in progress, on a line that stays free. -/
structure Underway (l : Byte) (s : State) : Prop where
  inv : MachineInv s
  busy : s.st = .busy
  cmd : decode s.cmd = .ok (.send l)
  free : StaysFree l s

/-- From `s` to `t` line `l`'s trace grows by the events; FRAME, PSEQ, HOST's plan and the other lines stay. -/
def Sends (l : Byte) (evs : List Event) (s t : State) : Prop :=
  t.frame = s.frame ∧ t.pseq = s.pseq ∧ t.hostPlan = s.hostPlan ∧
  (lineAt t l).trace = (lineAt s l).trace ++ evs ∧ (∀ m, m ≠ l → lineAt t m = lineAt s m)

theorem Sends.trans {l : Byte} {evs evs' : List Event} {s t u : State} (h : Sends l evs s t) (h' : Sends l evs' t u) :
    Sends l (evs ++ evs') s u := by
  obtain ⟨hframe, hpseq, hplan, htrace, hothers⟩ := h
  obtain ⟨hframe', hpseq', hplan', htrace', hothers'⟩ := h'
  exact ⟨hframe'.trans hframe, hpseq'.trans hpseq, hplan'.trans hplan, by rw [htrace', htrace, List.append_assoc],
    fun m hm => (hothers' m hm).trans (hothers m hm)⟩

theorem sends_of_execSend {l : Byte} {evs : List Event} {s u : State} (h : execSend l s = .next u)
    (htrace : (lineAt u l).trace = (lineAt s l).trace ++ evs) : Sends l evs s (advanceEnv u) := by
  obtain ⟨-, -, hframe, hpseq, -, -, -, hplan, -, hothers, -⟩ := execSend_keeps h
  exact ⟨by simpa, by simpa, by simpa, by simpa, by simpa⟩

theorem Underway.step_eq {l : Byte} {s u : State} (h : Underway l s) (hu : execSend l s = .next u) :
    step s = .next (advanceEnv u) := by
  have hexec : exec (.send l) s = .next u := hu
  rw [step_busy h.busy h.cmd, hexec]
  rfl

/-- `n` steps of a SEND that append the events and leave it under way. -/
def Runs (l : Byte) (n : Nat) (evs : List Event) (s t : State) : Prop :=
  core.run n s = .next t ∧ Underway l t ∧ Sends l evs s t

theorem Runs.trans {l : Byte} {n n' : Nat} {evs evs' : List Event} {s t u : State} (h : Runs l n evs s t)
    (h' : Runs l n' evs' t u) : Runs l (n + n') (evs ++ evs') s u := by
  obtain ⟨hrun, -, hsends⟩ := h
  obtain ⟨hrun', hunder, hsends'⟩ := h'
  exact ⟨(run_add hrun).trans hrun', hunder, hsends.trans hsends'⟩

/-- A step of SEND that does not respond is one such step. -/
theorem Underway.runs {l : Byte} {evs : List Event} {s u : State} (h : Underway l s) (hu : execSend l s = .next u)
    (hbusy : u.st = .busy) (htrace : (lineAt u l).trace = (lineAt s l).trace ++ evs) : Runs l 1 evs s (advanceEnv u) := by
  obtain ⟨hcfg, hcmd, -, -, -, henv, hplan, -⟩ := execSend_keeps hu
  exact ⟨run_one (h.step_eq hu), ⟨machineInv_step h.inv (h.step_eq hu), by simpa, by simpa [hcmd] using h.cmd,
    h.free.advance hcfg henv hplan⟩, sends_of_execSend hu htrace⟩

theorem Runs.underway {l : Byte} {n : Nat} {evs : List Event} {s t : State} (h : Runs l n evs s t) : Underway l t := by
  obtain ⟨-, hunder, -⟩ := h
  exact hunder

theorem Runs.pseq_eq {l : Byte} {n : Nat} {evs : List Event} {s t : State} (h : Runs l n evs s t) : t.pseq = s.pseq := by
  obtain ⟨-, -, -, hpseq, -⟩ := h
  exact hpseq

/-! ### The phases on a free line (R116) -/

theorem Underway.admitted {l : Byte} {s : State} (h : Underway l s) (hp : s.txPhase = .off) (hv : s.pseqValid = true)
    (hl : lineExists s.cfg l = true) : ∃ t, Runs l 1 [] s t ∧ t.txPhase = .claim := by
  obtain ⟨havailable, -, -⟩ := h.free.inputs
  exact ⟨_, h.runs (execSend_admitted hp hv hl havailable) h.busy (List.append_nil _).symm, by simp⟩

theorem Underway.claimed {l : Byte} {s : State} (h : Underway l s) (hp : s.txPhase = .claim) :
    ∃ t, Runs l 1 [.claim] s t ∧ t.txPhase = .configure := by
  obtain ⟨-, hunclaimed, -⟩ := h.free.inputs
  exact ⟨_, h.runs (execSend_claim_of_unclaimed hp hunclaimed) h.busy (by simp), by simp⟩

theorem Underway.configured {l : Byte} {s : State} (h : Underway l s) (hp : s.txPhase = .configure) :
    ∃ t, Runs l 1 [.config carrier] s t ∧ t.txPhase = .load := by
  obtain ⟨-, -, hcarrier⟩ := h.free.inputs
  exact ⟨_, h.runs (execSend_configure_of_carrier hp hcarrier) h.busy (by simp), by simp⟩

theorem Underway.loaded {l : Byte} {s : State} (h : Underway l s) (hp : s.txPhase = .load) :
    ∃ t, Runs l 1 [] s t ∧ t.txPhase = .emit ∧ t.txPtr = 0 := by
  obtain ⟨hv, -⟩ := h.inv.inFlight (by simp [hp])
  have hlen : s.pseqLen.toNat ≤ 220 := by rw [h.inv.pseqLen_eq hv]; decide
  exact ⟨_, h.runs (execSend_load hp hlen) h.busy (by simp), by simp, by simp⟩

/-- One entry: its segments, and RELEASE after the last. -/
theorem Underway.emitted {l : Byte} {s : State} (h : Underway l s) (hp : s.txPhase = .emit) (hk : s.txPtr.toNat < 220) :
    ∃ t, Runs l 1 (segments s.pseq[s.txPtr.toNat]) s t ∧ t.txPtr.toNat = s.txPtr.toNat + 1 ∧
      t.txPhase = if s.txPtr.toNat = 219 then .release else .emit := by
  obtain ⟨hlen, hbuf⟩ := h.inv.loaded (.inl hp)
  have hlt : s.txPtr < s.txLen := by rw [hlen, BitVec.lt_def]; exact hk
  obtain ⟨-, htrace, -⟩ := lineGrown_emitEntry l s.txbuf[s.txPtr.toNat] s
  rw [← hbuf]
  refine ⟨_, h.runs (execSend_emit_of_entry hp hlt h.free.no_fault hk) h.busy htrace, ?_, ?_⟩
  · rw [advanceEnv_txPtr]
    exact txPtr_succ hk
  · rw [advanceEnv_txPhase]
    exact h.inv.emitEntry_phase hp hk l

/-- The entries left are the one at hand and those after it. -/
theorem drop_flatMap_segments (p : EntryStore) {k : Nat} (hk : k < 220) :
    (p.toList.drop k).flatMap segments = segments p[k] ++ (p.toList.drop (k + 1)).flatMap segments := by
  rw [List.drop_eq_getElem_cons (by simpa using hk), List.flatMap_cons, Vector.getElem_toList]

/-- EMIT to its end, by induction on the entries left after the one at TX_PTR. -/
theorem Underway.allEmitted {l : Byte} (n : Nat) {s : State} (h : Underway l s) (hp : s.txPhase = .emit)
    (hn : s.txPtr.toNat + (n + 1) = 220) :
    ∃ t, Runs l (n + 1) ((s.pseq.toList.drop s.txPtr.toNat).flatMap segments) s t ∧ t.txPhase = .release := by
  induction n generalizing s with
  | zero =>
    obtain ⟨t, hruns, -, hphase⟩ := h.emitted hp (by omega)
    have hnone : s.pseq.toList.drop (s.txPtr.toNat + 1) = [] := List.drop_eq_nil_of_le (by simp; omega)
    rw [drop_flatMap_segments _ (by omega), hnone, List.flatMap_nil, List.append_nil]
    exact ⟨t, hruns, by rw [hphase, if_pos (by omega)]⟩
  | succ n ih =>
    obtain ⟨t, hruns, hptr, hphase⟩ := h.emitted hp (by omega)
    obtain ⟨-, hunder, -, hpseq, -⟩ := id hruns
    obtain ⟨u, hruns', hp'⟩ := ih hunder (by rw [hphase, if_neg (by omega)]) (by omega)
    rw [hpseq, hptr] at hruns'
    rw [drop_flatMap_segments _ (by omega), Nat.add_comm]
    exact ⟨u, hruns.trans hruns', hp'⟩

/-- From admission to RELEASE: 224 steps, and all the sequence's segments on the line. -/
theorem Underway.reachesRelease {l : Byte} {s : State} (h : Underway l s) (hp : s.txPhase = .off)
    (hv : s.pseqValid = true) (hl : lineExists s.cfg l = true) :
    ∃ t, Runs l 224 ([.claim, .config carrier] ++ s.pseq.toList.flatMap segments) s t ∧ t.txPhase = .release := by
  obtain ⟨s₁, hadmit, hp₁⟩ := h.admitted hp hv hl
  obtain ⟨s₂, hclaim, hp₂⟩ := hadmit.underway.claimed hp₁
  obtain ⟨s₃, hconfigure, hp₃⟩ := hclaim.underway.configured hp₂
  obtain ⟨s₄, hload, hp₄, hptr⟩ := hconfigure.underway.loaded hp₃
  obtain ⟨t, hemit, hp₅⟩ := hload.underway.allEmitted 219 hp₄ (by rw [hptr]; rfl)
  have hbefore := ((hadmit.trans hclaim).trans hconfigure).trans hload
  have hpseq : s₄.pseq = s.pseq := hbefore.pseq_eq
  rw [hpseq, hptr] at hemit
  exact ⟨t, hbefore.trans hemit, hp₅⟩

/-- A SEND on a free line is Sent: R133's events, the line given back, the request's data discarded. -/
theorem Underway.sent {l : Byte} {s : State} (h : Underway l s) (hp : s.txPhase = .off) (hv : s.pseqValid = true)
    (hl : lineExists s.cfg l = true) :
    ∃ t : State, core.run 225 s = .next t ∧ t.hostPlan = s.hostPlan ∧
      t.rsp = 0x0000 ∧ t.rspValid = true ∧ t.st = .idle ∧ t.txPhase = .off ∧ t.txPtr = 220 ∧
      t.frameValid = false ∧ t.pseqValid = false ∧ t.frame = s.frame ∧ t.pseq = s.pseq ∧
      (lineAt t l).trace = (lineAt s l).trace ++ sentEvents s.pseq ∧
      (lineAt t l).owned = false ∧ (lineAt t l).lineCfg = some carrier ∧ (lineAt t l).level = .low ∧
      (∀ m, m ≠ l → lineAt t m = lineAt s m) := by
  obtain ⟨r, hruns, hp'⟩ := h.reachesRelease hp hv hl
  obtain ⟨hrun, hunder, hsends⟩ := hruns
  have hexec : execSend l r = .next (sendRelease l r) := execSend_release hp'
  obtain ⟨hown, hcfg, hlevel, htrace, -⟩ : LineReleased l r (sendRelease l r) := lineReleased_of_lines rfl
  obtain ⟨hframe, hpseq, hplan, hall, hothers⟩ := hsends.trans (sends_of_execSend hexec htrace)
  have hline : l = r.txLine := hunder.inv.line_eq (by simp [hp']) hunder.cmd
  have hcarrier : (lineAt r l).lineCfg = some carrier := hline ▸ hunder.inv.configured (.inr (.inr hp'))
  rw [signal_eq_sentEvents (h.inv.wellTimed hv)] at hall
  exact ⟨_, (run_add hrun).trans (run_one (hunder.step_eq hexec)), hplan, advanceEnv_rsp _, advanceEnv_rspValid _,
    advanceEnv_st _, advanceEnv_txPhase _, (advanceEnv_txPtr _).trans (hunder.inv.allEmitted hp'), advanceEnv_frameValid _,
    advanceEnv_pseqValid _, hframe, hpseq, hall, by rw [lineAt_advanceEnv, hown], by rw [lineAt_advanceEnv, hcfg, hcarrier],
    by rw [lineAt_advanceEnv, hlevel], hothers⟩

/-! ### The commands before SEND (R72, R73) -/

/-- From `s` to `t` a word is taken from HOST's plan, `q` being left, and nothing is done to a line or a parameter. -/
structure ReadyFor (l : Byte) (q : List HostMove) (s t : State) : Prop where
  inv : MachineInv t
  free : StaysFree l t
  cfg : t.cfg = s.cfg
  plan : t.hostPlan = q
  lines : ∀ m, lineAt t m = lineAt s m

theorem ReadyFor.trans {l : Byte} {q q' : List HostMove} {s t u : State} (h : ReadyFor l q s t) (h' : ReadyFor l q' t u) :
    ReadyFor l q' s u :=
  ⟨h'.inv, h'.free, h'.cfg.trans h.cfg, h'.plan, fun m => (h'.lines m).trans (h.lines m)⟩

/-- The state in which a word of HOST's plan was just accepted. -/
def accepted (w : HalfWord) (q : List HostMove) (s : State) : State := advanceEnv (accept w (setHostPlan q s))

@[simp] theorem accepted_st (w : HalfWord) (q : List HostMove) (s : State) : (accepted w q s).st = .busy := advanceEnv_st _
@[simp] theorem accepted_cmd (w : HalfWord) (q : List HostMove) (s : State) : (accepted w q s).cmd = w := advanceEnv_cmd _
@[simp] theorem accepted_frame (w : HalfWord) (q : List HostMove) (s : State) : (accepted w q s).frame = s.frame :=
  advanceEnv_frame _
@[simp] theorem accepted_frameValid (w : HalfWord) (q : List HostMove) (s : State) :
    (accepted w q s).frameValid = s.frameValid := advanceEnv_frameValid _
@[simp] theorem accepted_pseq (w : HalfWord) (q : List HostMove) (s : State) : (accepted w q s).pseq = s.pseq :=
  advanceEnv_pseq _
@[simp] theorem accepted_pseqValid (w : HalfWord) (q : List HostMove) (s : State) :
    (accepted w q s).pseqValid = s.pseqValid := advanceEnv_pseqValid _
@[simp] theorem accepted_txPhase (w : HalfWord) (q : List HostMove) (s : State) : (accepted w q s).txPhase = s.txPhase :=
  advanceEnv_txPhase _

/-- Acceptance takes the word alone. -/
theorem readyFor_accepted {l : Byte} {q : List HostMove} {w : HalfWord} {s : State} (hinv : MachineInv s)
    (hfree : StaysFree l s) (h : step s = .next (accepted w q s)) : ReadyFor l q s (accepted w q s) where
  inv := machineInv_step hinv h
  free := hfree.advance (u := accept w (setHostPlan q s)) rfl rfl rfl
  cfg := advanceEnv_cfg _
  plan := advanceEnv_hostPlan _
  lines := lineAt_advanceEnv _

/-- A sequencer's command, accepted from a state `s`, runs in one step and leaves HOST's next word to come. -/
theorem ReadyFor.exec {l : Byte} {q : List HostMove} {i : Instr} {s a u : State} (h : ReadyFor l q s a) (hbusy : a.st = .busy)
    (hd : decode a.cmd = .ok i) (hi : ∀ m, i ≠ .send m) (hu : Machine.exec i a = .next u) :
    step a = .next (advanceEnv u) ∧ ReadyFor l q s (advanceEnv u) := by
  have hstep : step a = .next (advanceEnv u) := by rw [step_busy hbusy hd, hu]; rfl
  obtain ⟨hcfg, -, -, -, -, -, -, hlines, henv, henvPlan, hplan, -⟩ := exec_sequencerKeeps hi hu
  exact ⟨hstep, machineInv_step h.inv hstep, h.free.advance hcfg henv henvPlan, by rw [advanceEnv_cfg, hcfg, h.cfg],
    by rw [advanceEnv_hostPlan, hplan, h.plan], fun m => by rw [lineAt_advanceEnv, hlines, h.lines]⟩

/-- A BUILD presented on an idle block: after two steps its frame is held and its success stands. -/
theorem run_build {l : Byte} {q : List HostMove} {w : HalfWord} {i : Instr} {f : FrameFile} {s : State} (hinv : MachineInv s)
    (hidle : s.st = .idle) (hfree : StaysFree l s) (hplan : s.hostPlan = .present w :: q) (hd : decode w = .ok i)
    (hi : ∀ m, i ≠ .send m) (hbuild : ∀ s', s'.cfg = s.cfg → exec i s' = .next (finishBuild f s')) :
    ∃ t : State, core.run 2 s = .next t ∧ ReadyFor l q s t ∧ t.st = .idle ∧ t.rspValid = true ∧ rspFailed t.rsp = false ∧
      t.frameValid = true ∧ t.frame = f := by
  have haccept : step s = .next (accepted w q s) := by rw [step_idle hidle, hostStep_present hplan]; rfl
  have hready : ReadyFor l q s (accepted w q s) := readyFor_accepted hinv hfree haccept
  obtain ⟨hstep, hready'⟩ := hready.exec (accepted_st w q s) (by rw [accepted_cmd, hd]) hi (hbuild _ hready.cfg)
  exact ⟨_, (run_add (run_one haccept)).trans (run_one hstep), hready', advanceEnv_st _, advanceEnv_rspValid _,
    by rw [advanceEnv_rsp, finishBuild_not_failed], advanceEnv_frameValid _, advanceEnv_frame _⟩

/-- ENCODE presented after a success: after two steps the frame's sequence is valid and its success stands. -/
theorem run_encode {l : Byte} {q : List HostMove} {s : State} (hinv : MachineInv s) (hidle : s.st = .idle)
    (hfree : StaysFree l s) (hplan : s.hostPlan = .presentIfOk (encode .encode) :: q) (hv : s.rspValid = true)
    (hok : rspFailed s.rsp = false) (hf : s.frameValid = true) :
    ∃ t : State, core.run 2 s = .next t ∧ ReadyFor l q s t ∧ t.st = .idle ∧ t.rspValid = true ∧ rspFailed t.rsp = false ∧
      t.pseqValid = true ∧ t.pseq = layout s.cfg s.frame := by
  have haccept : step s = .next (accepted (encode .encode) q s) := step_presentIfOk_of_success hidle hplan hv hok
  have hready : ReadyFor l q s (accepted (encode .encode) q s) := readyFor_accepted hinv hfree haccept
  have hexec := execEncode_of_frame ((accepted_frameValid (encode .encode) q s).trans hf)
  obtain ⟨hstep, hready'⟩ := hready.exec (i := .encode) (accepted_st _ q s) (by rw [accepted_cmd]; rfl) (fun _ => by simp) hexec
  refine ⟨_, (run_add (run_one haccept)).trans (run_one hstep), hready', advanceEnv_st _, advanceEnv_rspValid _,
    by rw [advanceEnv_rsp]; exact rspFailed_okWord 220, advanceEnv_pseqValid _, ?_⟩
  rw [advanceEnv_pseq, ← hready.cfg, ← accepted_frame (encode .encode) q s]

/-- A BUILD, ENCODE and SEND, the last two presented after a success: the signal of the frame built is on the line (R72). -/
theorem run_request {l : Byte} {q : List HostMove} {w : HalfWord} {i : Instr} {f : FrameFile} {s : State}
    (hinv : MachineInv s) (hidle : s.st = .idle) (hfree : StaysFree l s) (hl : lineExists s.cfg l = true)
    (hplan : s.hostPlan = .present w :: .presentIfOk (encode .encode) :: .presentIfOk (encode (.send l)) :: q)
    (hd : decode w = .ok i) (hi : ∀ m, i ≠ .send m)
    (hbuild : ∀ s', s'.cfg = s.cfg → exec i s' = .next (finishBuild f s')) :
    ∃ t : State, core.run 230 s = .next t ∧ t.hostPlan = q ∧
      t.rsp = 0x0000 ∧ t.rspValid = true ∧ t.st = .idle ∧ t.frameValid = false ∧ t.pseqValid = false ∧
      (lineAt t l).trace = (lineAt s l).trace ++ sentEvents (layout s.cfg f) ∧
      (∀ m, m ≠ l → lineAt t m = lineAt s m) := by
  obtain ⟨b, hrun, hready, hidle₁, hv₁, hok₁, hframeValid, hframe⟩ := run_build hinv hidle hfree hplan hd hi hbuild
  obtain ⟨e, hrun', hready', hidle₂, hv₂, hok₂, hpv, hpseq⟩ :=
    run_encode hready.inv hidle₁ hready.free hready.plan hv₁ hok₁ hframeValid
  have haccept : step e = .next (accepted (encode (.send l)) q e) := step_presentIfOk_of_success hidle₂ hready'.plan hv₂ hok₂
  have hready'' := (hready.trans hready').trans (readyFor_accepted hready'.inv hready'.free haccept)
  have hunder : Underway l (accepted (encode (.send l)) q e) :=
    ⟨hready''.inv, accepted_st _ _ _, by rw [accepted_cmd]; exact decode_encode rfl, hready''.free⟩
  obtain ⟨t, hsent, hhost, hrsp, hvalid, hst, -, -, hfv, hpv', -, -, htrace, -, -, -, hothers⟩ :=
    hunder.sent ((accepted_txPhase _ _ _).trans (hready'.inv.idleOff hidle₂)) ((accepted_pseqValid _ _ _).trans hpv)
      (hready''.cfg.symm ▸ hl)
  rw [accepted_pseq, hpseq, hready.cfg, hframe, hready''.lines l] at htrace
  have hrun₅ : core.run 5 s = .next (accepted (encode (.send l)) q e) :=
    (run_add hrun).trans ((run_add hrun').trans (run_one haccept))
  exact ⟨t, (run_add hrun₅).trans hsent, hhost.trans hready''.plan, hrsp, hvalid, hst, hfv, hpv', htrace,
    fun m hm => (hothers m hm).trans (hready''.lines m)⟩

/-! ### The words of a request (R71, R72) -/

/-- HOST's moves for a request, when the assembler takes its BUILD. -/
theorem plan_of_request {p : Pseudo} {c : AsmCommand} {l : Byte} {q plan : List HostMove}
    (hp : expand p = [c, .encode, .send l.toNat]) (h : (lineMoves (.pseudo p)).map (· ++ q) = some plan) :
    ∃ w, assemble c = some w ∧
      plan = .present w :: .presentIfOk (encode .encode) :: .presentIfOk (encode (.send l)) :: q := by
  have hsend : assemble (.send l.toNat) = some (encode (.send l)) := by
    rw [assemble_send, if_pos (Nat.le_of_lt_succ l.isLt), BitVec.ofNat_toNat, BitVec.setWidth_eq]
  have hencode : assemble .encode = some (encode .encode) := rfl
  cases hc : assemble c with
  | none => simp [lineMoves, hp, hc] at h
  | some w => exact ⟨w, rfl, by simpa [lineMoves, hp, hc, hencode, hsend, movesOf, eq_comm] using h⟩

/-- A mode's selector names the mode. -/
theorem modeOf_selectorOf (m : Mode) : modeOf (BitVec.ofNat 3 (selectorOf m)) = some m := by
  cases m <;> rfl

theorem selectorOf_wf (m : Mode) (temp : Byte) : (Instr.buildOn (BitVec.ofNat 3 (selectorOf m)) temp).wf = true := by
  cases m <;> rfl

end Sys2Proof.Machine

open Sys2Proof Sys2Proof.Machine

/-- Settles O30: admission, claim, configuration, LOAD, 220 entries and RELEASE, each a step that keeps the SEND under way. -/
theorem sendRunsToSent : Obligations.SendRunsToSent := by
  intro s l hinv hbusy hp hd hv hl hfree
  have hunder : Underway l s := ⟨hinv, hbusy, hd, hfree⟩
  obtain ⟨t, hrun, -, hsent⟩ := hunder.sent hp hv ((lineExists_iff _ _).2 hl)
  exact ⟨t, hrun, hsent⟩

/-- Settles O31: the BUILD asked for leaves the frame, ENCODE its sequence, and the SEND is Sent (O30). -/
theorem transmissionRequestOnTheWire : Obligations.TransmissionRequestOnTheWire := by
  intro s p f l q hinv hidle hrequest hmoves hl hfree
  have hl := (lineExists_iff s.cfg l).2 hl
  rcases hrequest with ⟨rfl, rfl⟩ | ⟨m, temp, b14, rfl, hb, rfl⟩
  · obtain ⟨w, hw, hplan⟩ := plan_of_request rfl hmoves
    have hd : decode w = .ok .buildOff := by cases hw; rfl
    exact run_request hinv hidle hfree hl hplan hd (fun _ => by simp) fun s' hcfg => hcfg ▸ execBuildOff_eq s'
  · obtain ⟨w, hw, hplan⟩ := plan_of_request rfl hmoves
    rw [assemble_buildOn] at hw
    split at hw
    next =>
      cases hw
      refine run_request hinv hidle hfree hl hplan (decode_encode (selectorOf_wf m _)) (fun _ => by simp) fun s' hcfg => ?_
      rw [← hcfg] at hb ⊢
      exact execBuildOn_of_tempByte (modeOf_selectorOf m) hb
    next => cases hw

end
